-- ==== Sys2Proof/Word.lean ====
section
/-! DEFINITION. The word types of the ZE-412: bytes, 16-bit and 32-bit fields, and the twenty operand
bytes of a slot read as one little-endian number (12.1, 12.2). -/

namespace Sys2Proof

/-- A byte of page memory or of the radio link. -/
abbrev Byte := BitVec 8

/-- A two-byte field. -/
abbrev Half := BitVec 16

/-- A four-byte field: addresses, tags, labels, digests. -/
abbrev Word := BitVec 32

/-- The twenty operand bytes of a slot; operand byte `i` is bits `8 i + 7` to `8 i`. -/
abbrev Operands := BitVec 160

end Sys2Proof
end

