-- ==== Sys2Proof/Config.lean ====
section
/-! DEFINITION. The fixed sizes of the ZE-412 (Device summary, 1.1) and the free values: what the manual
leaves open is a constant without a body, so that no proof can rest on one choice. -/

namespace Sys2Proof.Config

/-- Page memory holds 64 MiB (1.1). -/
def pageMemorySize : Nat := 0x4000000

/-- The first byte of the host area above the anchor block (1.1). -/
def hostAreaStart : Nat := 0x400

/-- The first byte after the host area (1.1). -/
def hostAreaEnd : Nat := 0x3000000

/-- The bundle addresses that keep all 160 bytes in the host area end here (R5, check 2). -/
def lastBundle : Nat := 0x2FFFF60

/-- Base address of the present plane (R34). -/
def presentBase : Nat := 0x3000000

/-- Base address of the target plane (R34). -/
def targetBase : Nat := 0x3400000

/-- Base address of the waveform store (3.5). -/
def waveBase : Nat := 0x3800000

/-- Row pitch of both planes in bytes (R34). -/
def planePitch : Nat := 2048

/-- First offset of the status block (1.1). -/
def statusStart : Nat := 0x40

/-- First offset after the records of the status block (12.4); the four spare bytes from here to 0x3FF are never
written (log 45). -/
def statusEnd : Nat := 0x3FC

/-- Entries the pending queue holds (4.2). -/
def queueRoom : Nat := 32

/-- Entries an open-bundle list holds (1.4). -/
def listRoom : Nat := 32

/-- Rectangles the uncertain list holds (R42). -/
def uncertainRoom : Nat := 16

/-- The link delimiter (R120). -/
def delimiter : Byte := 0xE7

/-- The link escape (R120). -/
def escape : Byte := 0xE5

/-- The most decoded bytes a link frame has (R122). -/
def maxFrame : Nat := 1034

/-- The most blocks a parcel has (8.1). -/
def maxBlocks : Nat := 8192

/-- DESIGN CHOICE (unsafe, log 1). What an unlisted byte of page memory reads as: the manual gives the
DRAM's contents at power-up no value (R20). -/
def blankByte : Byte := 0

/-- How many internal steps one event may take before it rests (log 22). -/
def settleFuel : Nat := 100

/-- FREE VALUE (log 5). How far a work in progress gets in one idle step. -/
opaque workProgress : Nat → Nat

/-- FREE VALUE (log 2). The bytes the DRAM holds after a power-on reset command (R20). -/
opaque powerOnCells : Nat → List Host.Cell

end Sys2Proof.Config
end

