-- ==== Sys2Proof/Syntax.lean ====
section
/-! DEFINITION. The commands of the ZE-412: one constructor of `Instr` for each row of
spec/opcode_table.json, with the row's operands, and one more for each of the two port registers' accesses that
R3 names and no row does (log 32). -/

namespace Sys2Proof

/-- The four engines, by their engine codes 1 to 4 (Conventions, Names). -/
inductive Engine where
  | panel | light | link | power
deriving DecidableEq, Repr

/-- The six monitored inputs (10.6). -/
inductive Input where
  | next | prev | cover | charger | chargeDone | radioWake
deriving DecidableEq, Repr

/-- The requests that have a defined code (R26). Test and Clear faults are served by every engine. -/
inductive RequestName where
  | configurePanel | loadWaveformSet | updateRegion | cancelUpdate | stagePage | freeSlot | ringReset
  | showSlot | turn
  | configureLight | setLight
  | configureLink | radioOn | radioOff | armParcel | cancelParcel | releaseParcel | reportParcel
  | configurePower | setCharge | doze | sleep | cancelSleep | acknowledgeInputs | setConditions
  | test | clearFaults
deriving DecidableEq, Repr

/-- A slot that a chain reader hands over: the bundle it stands in (chain, bundle address, slot number
and kept tag), its qualifier byte and its twenty operand bytes (1.3, 12.1). Engine and request code come
from the command. -/
structure Offer where
  chain : Fin 4
  bundle : Word
  slot : Fin 3
  tag : Word
  qual : Byte
  ops : Operands
deriving DecidableEq, Repr

/-- The commands. Each constructor's comment gives the rule that governs its row. -/
inductive Instr where
  /-- R20. -/
  | powerOnReset
  /-- R3. -/
  | resetPin
  /-- R3: a host write of any value to RESET. -/
  | resetWrite (value : Word)
  /-- R3: the chain unit has finished its reset actions. -/
  | resetComplete
  /-- R1: the bytes go to the address and the addresses after it. -/
  | hostWrite (addr : Word) (data : List Byte)
  /-- R1: `len` bytes from the address. -/
  | hostRead (addr : Word) (len : Nat)
  /-- R188. -/
  | noticeRead
  /-- R3: a host read of RESET, on the row HOST_READ (log 32). -/
  | resetRead
  /-- R3: a host write of any value to NOTICE, on the row HOST_WRITE (log 32). -/
  | noticeWrite (value : Word)
  /-- R10, by the reader of the chain. -/
  | bundleReadComplete (chain : Fin 4)
  /-- R11. -/
  | barrierRelease (chain : Fin 4)
  /-- R13. -/
  | queueRoomAdmit
  /-- R14. -/
  | listRoomRelease (chain : Fin 4)
  /-- R12, engine field 0, with whatever request code the slot holds. -/
  | emptySlot (o : Offer) (code : Byte)
  /-- R12, engine field 5 to 7. -/
  | reservedEngine (engine : BitVec 3) (o : Offer) (code : Byte)
  /-- R25, code 0x00. -/
  | noOp (e : Engine) (o : Offer)
  /-- R26, a code in 0x01 to 0x3F that the engine does not define. -/
  | reservedRequestCode (e : Engine) (o : Offer) (code : Byte)
  /-- R25, a code in 0x40 to 0x7F. -/
  | extensionRequestCode (e : Engine) (o : Offer) (code : Byte)
  /-- R25, a code in 0x80 to 0xFF. -/
  | ignoredRequestCode (e : Engine) (o : Offer) (code : Byte)
  /-- R28 to R32: panel 0x0B, light 0x03, link 0x08, power 0x08. -/
  | test (e : Engine) (o : Offer)
  /-- R33: power 0x07. -/
  | setConditions (o : Offer)
  /-- R186: panel 0x0A, light 0x04, link 0x09, power 0x09. -/
  | clearFaults (e : Engine) (o : Offer)
  /-- R35: panel 0x01. -/
  | configurePanel (o : Offer)
  /-- R45: panel 0x02. -/
  | loadWaveformSet (o : Offer)
  /-- R47. -/
  | waveformLoadComplete
  /-- R55: panel 0x03. -/
  | updateRegion (o : Offer)
  /-- R60: panel 0x04. -/
  | cancelUpdate (o : Offer)
  /-- R64, the entry at the given place of the pending queue, 0 for the oldest. -/
  | entryStart (pos : Fin 32)
  /-- R65, likewise. -/
  | budgetClockExpiry (pos : Fin 32)
  /-- R67. -/
  | loadingComplete (lane : Fin 16)
  /-- R69. -/
  | panelFrame
  /-- R71. -/
  | closeComplete (lane : Fin 16)
  /-- R81: panel 0x05. -/
  | stagePage (o : Offer)
  /-- R82: panel 0x06. -/
  | freeSlot (o : Offer)
  /-- R83: panel 0x07. -/
  | ringReset (o : Offer)
  /-- R84: panel 0x08. -/
  | showSlot (o : Offer)
  /-- R86: panel 0x09. -/
  | turn (o : Offer)
  /-- R90. -/
  | heldTurnQueued
  /-- R96: light 0x01. -/
  | configureLight (o : Offer)
  /-- R98: light 0x02. -/
  | setLight (o : Offer)
  /-- R105. -/
  | rampStep
  /-- R106. -/
  | ambientSampleStart
  /-- R106: the lux the sensor gave. -/
  | ambientSampleAnswer (lux : Half)
  /-- R106. -/
  | ambientSampleTimeout
  /-- R116: link 0x01. -/
  | configureLink (o : Offer)
  /-- R118: link 0x02. -/
  | radioOn (o : Offer)
  /-- R119: link 0x03. -/
  | radioOff (o : Offer)
  /-- R121: the byte received in IDLE. -/
  | frameStart (b : Byte)
  /-- R122: the byte received in FRAME that decodes to a wrong station. -/
  | stationMismatch (b : Byte)
  /-- R122: the byte received in FRAME that decodes to the 1035th byte. -/
  | sizeOverflow (b : Byte)
  /-- R122: the delimiter after an escape. -/
  | frameAbort
  /-- R123: the closing delimiter. -/
  | frameClose
  /-- R125. -/
  | takeHeldFrame
  /-- R141. -/
  | blockWriteComplete
  /-- R143, of the record with this index. -/
  | quietTimerExpiry (rec : Fin 8)
  /-- R145, of the record with this index. -/
  | verifyComplete (rec : Fin 8)
  /-- R128. -/
  | frameSendStart
  /-- R128. -/
  | frameSendEnd
  /-- R134: link 0x04. -/
  | armParcel (o : Offer)
  /-- R135: link 0x05. -/
  | cancelParcel (o : Offer)
  /-- R136: link 0x06. -/
  | releaseParcel (o : Offer)
  /-- R137: link 0x07. -/
  | reportParcel (o : Offer)
  /-- R154: power 0x01. -/
  | configurePower (o : Offer)
  /-- R158: power 0x02. -/
  | setCharge (o : Offer)
  /-- R153: battery voltage mV, battery current mA, battery and panel temperature in degrees. -/
  | measurement (vb ib batteryTemp panelTemp : Int)
  /-- R168: power 0x03. -/
  | doze (o : Offer)
  /-- R170: power 0x04. -/
  | sleep (o : Offer)
  /-- R171. -/
  | downloadHoldExpiry
  /-- R171. -/
  | drainingEnd
  /-- R172. -/
  | imagingEnd
  /-- R173. -/
  | darkeningEnd
  /-- R174: power 0x05. -/
  | cancelSleep (o : Offer)
  /-- R180: power 0x06. -/
  | acknowledgeInputs (o : Offer)
  /-- R179. -/
  | rawInputChange (i : Input) (level : Bool)
  /-- R179: the input's debounce timer expires. -/
  | debouncedChange (i : Input)
  /-- R177. -/
  | wakeTimerExpiry
  /-- R169. -/
  | wakePulseEnd
  /-- R121. -/
  | huntDelimiter
  /-- R122. -/
  | discardDelimiter
  /-- R122: the byte received in FRAME. -/
  | frameDataByte (b : Byte)
deriving DecidableEq, Repr

end Sys2Proof
end

