-- ==== Sys2Proof/Decode.lean ====
section
/-! DEFINITION. The request codes of the four engines (R25, R26) and the decoding of table words. The
rows of spec/opcode_table.json give no bits, so no word spells a command (log 25). -/

namespace Sys2Proof

/-- R26: the defined codes of each engine. `none` in 0x01 to 0x3F is a reserved code. -/
def definedRequest : Engine → Byte → Option RequestName
  | .panel, 0x01 => some .configurePanel
  | .panel, 0x02 => some .loadWaveformSet
  | .panel, 0x03 => some .updateRegion
  | .panel, 0x04 => some .cancelUpdate
  | .panel, 0x05 => some .stagePage
  | .panel, 0x06 => some .freeSlot
  | .panel, 0x07 => some .ringReset
  | .panel, 0x08 => some .showSlot
  | .panel, 0x09 => some .turn
  | .panel, 0x0A => some .clearFaults
  | .panel, 0x0B => some .test
  | .light, 0x01 => some .configureLight
  | .light, 0x02 => some .setLight
  | .light, 0x03 => some .test
  | .light, 0x04 => some .clearFaults
  | .link, 0x01 => some .configureLink
  | .link, 0x02 => some .radioOn
  | .link, 0x03 => some .radioOff
  | .link, 0x04 => some .armParcel
  | .link, 0x05 => some .cancelParcel
  | .link, 0x06 => some .releaseParcel
  | .link, 0x07 => some .reportParcel
  | .link, 0x08 => some .test
  | .link, 0x09 => some .clearFaults
  | .power, 0x01 => some .configurePower
  | .power, 0x02 => some .setCharge
  | .power, 0x03 => some .doze
  | .power, 0x04 => some .sleep
  | .power, 0x05 => some .cancelSleep
  | .power, 0x06 => some .acknowledgeInputs
  | .power, 0x07 => some .setConditions
  | .power, 0x08 => some .test
  | .power, 0x09 => some .clearFaults
  | _, _ => none

/-- The ranges of request codes (2.3). -/
inductive CodeClass where
  | noOp | defined (r : RequestName) | reserved | extension | ignored
deriving DecidableEq, Repr

/-- R25: the range a request code falls in. -/
def codeClass (e : Engine) (code : Byte) : CodeClass :=
  if code = 0 then .noOp
  else if code.toNat ≤ 0x3F then
    match definedRequest e code with
    | some r => .defined r
    | none => .reserved
  else if code.toNat ≤ 0x7F then .extension
  else .ignored

/-- The command that a word of the table spells: the table gives no row any bits, so there is none
(log 25). -/
def decodeTableWord (_nbits _w : Nat) : Option Instr := none

end Sys2Proof
end

