-- ==== Sys2Proof/Machine/State.lean ====
section
/-! DEFINITION. The state of the ZE-412 as plain data: page memory, the memory port, the chain unit, the
four engines, the fault states, the notices, and the queue of waiting commands. Each type names the rule
of spec/ that gives it. -/

namespace Sys2Proof.Machine

/-! ## Page memory, outcomes and bundles (chapter 1) -/

/-- Page memory: address and byte, addresses rising, no entry equal to what an unlisted address reads as. -/
abbrev Memory := List Host.Cell

/-- Where a request stands: chain, bundle address, slot number and the kept bundle tag (R57). -/
structure ReqRef where
  chain : Fin 4
  bundle : Word
  slot : Fin 3
  tag : Word
deriving DecidableEq, Repr

/-- Outcome states (1.3). -/
inductive OutcomeState where
  | pending | skipped | refused | queued | started | done | cancelled | failed
deriving DecidableEq, Repr

/-- The reason list (11.4). -/
inductive Reason where
  | none | illegal | range | busy | sleeping | protectedArea | noWaveform | waveformBad | temperature
  | uncertain | clipped | budgetWait | halted | tooLate | slotCurrent | slotEmpty | duplicate | tableFull
  | tooLarge | stalled | digest | abandoned | cancelled | slept | aborted | noBudget | postedFault
deriving DecidableEq, Repr

/-- A slot as the reader keeps it (12.1). -/
structure Slot where
  engine : BitVec 3
  barrier : Bool
  qual : Byte
  code : Byte
  ops : Operands
deriving DecidableEq, Repr

/-- A slot of zeros. -/
def Slot.empty : Slot := ⟨0, false, 0, 0, 0⟩

/-- What a reader reads of a bundle at READING (R6). -/
structure Contents where
  tag : Word
  notify : Bool
  slots : Vector Slot 3
deriving DecidableEq, Repr

/-- A bundle that the chain unit holds: its address, kept tag and notify flag, and the chain unit's
record of its three outcomes (R6). -/
structure Bundle where
  addr : Word
  tag : Word
  notify : Bool
  outcomes : Vector OutcomeState 3
deriving DecidableEq, Repr

/-- Chain reader states (1.4). -/
inductive ReaderState where
  | idle | reading | handing | awaitLink | stopped
deriving DecidableEq, Repr

/-- Hold causes of a reader in HANDING (1.4). -/
inductive HoldCause where
  | none | barrier | queueRoom | listRoom
deriving DecidableEq, Repr

/-- Chain fault causes (R5). -/
inductive ChainCause where
  | none | misaligned | outside | anchor | inUse
deriving DecidableEq, Repr

/-- A chain reader (1.4). `fetched` is the model's own: what a bundle read under way has read so far
ahead of its completion (log 5). -/
structure Reader where
  state : ReaderState
  hold : HoldCause
  current : Option Bundle
  slots : Vector Slot 3
  next : Nat
  fetched : Option Contents
  openList : List Bundle
  faultAddr : Word
  faultCause : ChainCause
  retired : Word
deriving DecidableEq, Repr

/-- A reader after any reset (R20). -/
def Reader.reset : Reader where
  state := .idle
  hold := .none
  current := none
  slots := Vector.replicate 3 Slot.empty
  next := 0
  fetched := none
  openList := []
  faultAddr := 0
  faultCause := .none
  retired := 0

/-- The two comparators of a chain (1.2). -/
inductive Watch where
  | head | link
deriving DecidableEq, Repr

/-- The condition set as the conditions record holds it (R21). `bumped` is the model's own: the change
count has already gone up in the event under way (log 10). -/
structure Conditions where
  values : BitVec 16
  count : Half
  bumped : Bool
deriving DecidableEq, Repr

/-- A host access that the port holds during a reset (R3). -/
inductive Access where
  | write (addr : Word) (data : List Byte)
  | read (addr : Word) (len : Nat)
  | noticeRead
  | resetRead
  | noticeWrite (value : Word)
deriving DecidableEq, Repr

/-- The memory port. `returned` is the model's own: the bytes of each host read served in the event
under way, as the port's data lines give them. -/
structure Port where
  resetting : Bool
  waiting : List Access
  returned : List (List Byte)
deriving DecidableEq, Repr

/-! ## Panel engine (chapters 3, 4 and 5) -/

/-- A rectangle of the panel (R34). -/
structure Rect where
  x : Nat
  y : Nat
  w : Nat
  h : Nat
deriving DecidableEq, Repr

/-- Update modes (R39). -/
inductive Mode where
  | settle | tone | crisp | swift
deriving DecidableEq, Repr

/-- The panel fault enable mask (3.1). -/
structure PanelMask where
  tempRange : Bool
  uncertain : Bool
  clipped : Bool
  budgetWait : Bool
deriving DecidableEq, Repr

/-- Panel settings (3.1). -/
structure PanelSettings where
  width : Nat
  height : Nat
  framePeriod : Nat
  lowWater : Nat
  budgetLimit : Nat
  restoreOnWake : Bool
  turnOnWake : Bool
  mask : PanelMask
deriving DecidableEq, Repr

/-- Origin of an update entry (4.2). -/
inductive EntryOrigin where
  | request (r : ReqRef)
  | ring (slot : Fin 8) (rep : Option ReqRef)
  | sleep (rep : Option ReqRef)
deriving DecidableEq, Repr

/-- Holds of a pending entry (4.2). -/
inductive EntryHold where
  | none | set | lane | older | noLane | budget
deriving DecidableEq, Repr

/-- A pending-queue entry (4.2). `clock` is the budget clock: stopped, or the milliseconds it has run. -/
structure Entry where
  origin : EntryOrigin
  rect : Rect
  image : Word
  stride : Nat
  mode : Mode
  promoted : Bool
  clipped : Bool
  hold : EntryHold
  clock : Option Nat
  counted : Bool
deriving DecidableEq, Repr

/-- Lane states (4.4). -/
inductive LaneState where
  | free | loading | driving | closing
deriving DecidableEq, Repr

/-- An update lane (4.4). `rows` counts the rows of the source image already loaded (R66). -/
structure Lane where
  state : LaneState
  rect : Rect
  mode : Mode
  band : Nat
  frameIndex : Nat
  frameCount : Nat
  marked : Nat
  claim : Nat
  origin : Option EntryOrigin
  promoted : Bool
  clipped : Bool
  image : Word
  stride : Nat
  rows : Nat
deriving DecidableEq, Repr

/-- A FREE lane carries no rectangle and no claim (4.4). -/
def Lane.free : Lane where
  state := .free
  rect := ⟨0, 0, 0, 0⟩
  mode := .settle
  band := 0
  frameIndex := 0
  frameCount := 0
  marked := 0
  claim := 0
  origin := none
  promoted := false
  clipped := false
  image := 0
  stride := 0
  rows := 0

/-- A waveform load in progress (R46): the request that asked for it and how much is copied. -/
structure LoadJob where
  source : Word
  length : Nat
  rep : ReqRef
  copied : Nat
deriving DecidableEq, Repr

/-- Waveform set states (3.5). -/
inductive SetState where
  | absent
  | loading (job : LoadJob)
  | valid
deriving DecidableEq, Repr

/-- Temperature range states (R51). -/
inductive RangeState where
  | inRange | outLow | outHigh
deriving DecidableEq, Repr

/-- Tags of a turn ring slot (5.1). -/
inductive Tag where
  | empty | ready | shown
deriving DecidableEq, Repr

/-- Turn directions (5.1). -/
inductive Dir where
  | next | prev
deriving DecidableEq, Repr

/-- A turn ring slot (5.1). -/
structure RingSlot where
  tag : Tag
  image : Word
  mode : Mode
  label : Word
deriving DecidableEq, Repr

/-- A held turn (5.1). -/
inductive HeldTurn where
  | slotEmpty (dir : Dir)
  | queueFull (dir : Dir) (fromSlot : Fin 8) (former : Tag) (rep : Option ReqRef)
deriving DecidableEq, Repr

/-- The turn ring (5.1). -/
structure Ring where
  slots : Vector RingSlot 8
  current : Fin 8
  dir : Dir
  held : Option HeldTurn
deriving DecidableEq, Repr

/-- The ring after any reset (R78). -/
def Ring.reset : Ring where
  slots := Vector.replicate 8 ⟨.empty, 0, .settle, 0⟩
  current := 0
  dir := .next
  held := none

/-- The panel engine. `frameClock` is stopped, or the milliseconds to the next frame event (R68). -/
structure Panel where
  settings : PanelSettings
  setState : SetState
  band : Option Nat
  lastTemp : Int
  range : RangeState
  uncertain : List Rect
  wholePanel : Bool
  queue : List Entry
  lanes : Vector Lane 16
  frameClock : Option Nat
  ring : Ring
deriving DecidableEq, Repr

/-- The panel settings after any reset (3.1, R37). -/
def PanelSettings.reset : PanelSettings where
  width := 1024
  height := 768
  framePeriod := 20
  lowWater := 2
  budgetLimit := 30
  restoreOnWake := false
  turnOnWake := false
  mask := ⟨false, false, false, false⟩

/-- The panel engine after a power-on reset (R37, R44, R53, R74, R78). -/
def Panel.reset : Panel where
  settings := PanelSettings.reset
  setState := .absent
  band := none
  lastTemp := 20
  range := .inRange
  uncertain := []
  wholePanel := true
  queue := []
  lanes := Vector.replicate 16 Lane.free
  frameClock := none
  ring := Ring.reset

/-! ## Light engine (chapter 6) -/

/-- Light settings (6.1); `points` is the auto table. -/
structure LightSettings where
  ifw : Nat
  ifc : Nat
  step : Nat
  points : List (Nat × Nat)
  hysteresis : Nat
  grantLimited : Bool
  sensorLost : Bool
deriving DecidableEq, Repr

/-- The light engine (chapter 6). `ramp` is stopped, or the milliseconds to the next ramp step (R104);
`sampleClock` the milliseconds to the next sample, absent in SLEEP; `sample` the milliseconds since the
sample in progress began (R106). -/
structure Light where
  settings : LightSettings
  auto : Bool
  level : Nat
  warmth : Nat
  dw : Nat
  dc : Nat
  il : Nat
  g : Nat
  lw : Nat
  lc : Nat
  pw : Nat
  pc : Nat
  ramp : Option Nat
  lux : Nat
  sampleClock : Option Nat
  sample : Option Nat
  limiting : Bool
  lost : Bool
  dark : Bool
deriving DecidableEq, Repr

/-- The light settings after any reset (6.1). -/
def LightSettings.reset : LightSettings where
  ifw := 40
  ifc := 40
  step := 64
  points := [(0, 500), (1000, 0)]
  hysteresis := 30
  grantLimited := false
  sensorLost := false

/-- The light engine after any reset (R106, R114). -/
def Light.reset : Light where
  settings := LightSettings.reset
  auto := false
  level := 0
  warmth := 50
  dw := 0
  dc := 0
  il := 0
  g := 0
  lw := 0
  lc := 0
  pw := 0
  pc := 0
  ramp := none
  lux := 0
  sampleClock := some 500
  sample := none
  limiting := false
  lost := false
  dark := false

/-! ## Link engine (chapters 7 and 8) -/

/-- Link settings (7.2); `mask` has one flag for each of the ten fault kinds, OVERRUN at bit 0. -/
structure LinkSettings where
  station : Byte
  filter : Bool
  quietTime : Nat
  gapLimit : Nat
  current : Nat
  mask : BitVec 10
deriving DecidableEq, Repr

/-- Why a frame is discarded (7.5). -/
inductive DiscardCause where
  | overrun | station | size
deriving DecidableEq, Repr

/-- Receiver states (7.5); FRAME names the collecting buffer. -/
inductive RxState where
  | hunt
  | idle
  | frame (buf : Fin 4)
  | discard (cause : DiscardCause)
deriving DecidableEq, Repr

/-- The receiver (7.5). The decoded length is the length of the collecting buffer's bytes. -/
structure Receiver where
  state : RxState
  escape : Bool
  crc : BitVec 16
deriving DecidableEq, Repr

/-- Places of the outbound queue (R127). -/
inductive OutPlace where
  | record (r : Fin 8)
  | refuse
deriving DecidableEq, Repr

/-- An outbound frame: its place, its parcel number, and its header and payload (7.7). -/
structure OutFrame where
  place : OutPlace
  parcel : Half
  bytes : List Byte
deriving DecidableEq, Repr

/-- Parcel record states (8.1). -/
inductive ParcelState where
  | free | armed | filling | verifying | complete | failed
deriving DecidableEq, Repr

/-- The fields a record takes from an accepted OPEN (8.1). `map` has one flag per block. -/
structure OpenFields where
  total : Nat
  blockSize : Nat
  count : Nat
  digest : Word
  map : List Bool
  received : Nat
  gaps : Nat
deriving DecidableEq, Repr

/-- A quiet timer with its milliseconds left (R142). -/
inductive Quiet where
  | stopped
  | running (left : Nat)
  | paused (left : Nat)
deriving DecidableEq, Repr

/-- A block write in progress: the block number and how many bytes are copied (R141). -/
structure BlockWrite where
  block : Nat
  copied : Nat
deriving DecidableEq, Repr

/-- A verify pass in progress: how many bytes are read and the running CRC-32 (R144). -/
structure VerifyPass where
  done : Nat
  crc : Word
deriving DecidableEq, Repr

/-- A parcel record (8.1). -/
structure Parcel where
  state : ParcelState
  number : Half
  buffer : Word
  capacity : Nat
  fields : Option OpenFields
  quiet : Quiet
  write : Option BlockWrite
  verify : Option VerifyPass
  reason : Reason
deriving DecidableEq, Repr

/-- A FREE record. -/
def Parcel.free : Parcel where
  state := .free
  number := 0
  buffer := 0
  capacity := 0
  fields := none
  quiet := .stopped
  write := none
  verify := none
  reason := .none

/-- The link engine (chapters 7 and 8). `fifo` lists the HELD buffers, oldest first; `handling` is the
buffer whose frame is being handled. A buffer that is neither, nor collecting, is FREE. Of the frame being sent,
`sent` bytes have gone on the transmit line (R128); `line` is the byte sent at the last transmit clock, none when
none has been sent since the rail went ON (log 23). -/
structure Link where
  settings : LinkSettings
  rail : Bool
  receiver : Receiver
  buffers : Vector (List Byte) 4
  fifo : List (Fin 4)
  handling : Option (Fin 4)
  outbound : List OutFrame
  sending : Option OutFrame
  sent : Nat
  line : Option Byte
  connected : Bool
  signal : Nat
  accepted : Half
  parcels : Vector Parcel 8
deriving DecidableEq, Repr

/-- The link settings after any reset (7.2). -/
def LinkSettings.reset : LinkSettings where
  station := 1
  filter := true
  quietTime := 8
  gapLimit := 4
  current := 300
  mask := 0

/-- The link engine after any reset (R131, R151). -/
def Link.reset : Link where
  settings := LinkSettings.reset
  rail := false
  receiver := ⟨.hunt, false, 0xFFFF⟩
  buffers := Vector.replicate 4 []
  fifo := []
  handling := none
  outbound := []
  sending := none
  sent := 0
  line := none
  connected := false
  signal := 0
  accepted := 0
  parcels := Vector.replicate 8 Parcel.free

/-! ## Power engine (chapters 9 and 10) -/

/-- Power settings (9.2). The wake set has bit 0 BUTTON to bit 4 TIMER (12.2). -/
structure PowerSettings where
  capacity : Nat
  resistance : Nat
  vfloor : Nat
  vcut : Nat
  vempty : Nat
  imax : Nat
  reserve : Nat
  hotLimit : Nat
  lowThreshold : Nat
  budgetShort : Bool
  batteryHot : Bool
  gaugeClamp : Bool
  downloadHold : Nat
  wakeToDoze : Bool
  coverSleep : Bool
  coverImage : Word
  coverMode : Mode
  coverWake : BitVec 5
deriving DecidableEq, Repr

/-- The power settings after a power-on reset (9.2). -/
def PowerSettings.reset : PowerSettings where
  capacity := 0
  resistance := 200
  vfloor := 3300
  vcut := 3100
  vempty := 3350
  imax := 800
  reserve := 50
  hotLimit := 55
  lowThreshold := 150
  budgetShort := false
  batteryHot := false
  gaugeClamp := false
  downloadHold := 30
  wakeToDoze := false
  coverSleep := false
  coverImage := 0
  coverMode := .settle
  coverWake := 0

/-- Clamp states of the gauge (9.3). -/
inductive Clamp where
  | none | atEmpty | atFull
deriving DecidableEq, Repr

/-- The coulomb gauge (9.3). -/
structure Gauge where
  qr : Nat
  qfull : Nat
  calibrated : Bool
  clamp : Clamp
  soc : Nat
deriving DecidableEq, Repr

/-- Power states (chapter 10). -/
inductive PowerState where
  | run | doze | sleepPending | sleep
deriving DecidableEq, Repr

/-- Steps of sleep entry (10.2). -/
inductive SleepStep where
  | draining | imaging | darkening
deriving DecidableEq, Repr

/-- Origin of a sleep (10.1). -/
inductive SleepOrigin where
  | none
  | request (r : ReqRef)
  | cover
deriving DecidableEq, Repr

/-- The sleep record (10.1). -/
structure SleepRec where
  origin : SleepOrigin
  image : Word
  mode : Mode
  wakeSet : BitVec 5
  timer : Nat
deriving DecidableEq, Repr

/-- The download hold timer, with its milliseconds left (R171). -/
inductive HoldTimer where
  | stopped
  | running (left : Nat)
  | expired
deriving DecidableEq, Repr

/-- The sleep image entry (10.1); `over` says that IMAGING has nothing left to wait for (R172). -/
inductive ImageEntry where
  | absent
  | queued
  | inLane (n : Fin 16)
  | over
deriving DecidableEq, Repr

/-- The image flag (R173). -/
inductive ImageFlag where
  | none | drawn | skipped
deriving DecidableEq, Repr

/-- Wake causes, in the order of 10.1. -/
inductive WakeCause where
  | none | button | coverOpen | chargerChange | radioWake | timer | hostAccess | charger
deriving DecidableEq, Repr

/-- Cover results (R176). -/
inductive CoverResult where
  | none | started | refusedImage | refusedState
deriving DecidableEq, Repr

/-- Sleep entry, sleep and wake (chapter 10). `imageFlag` is the image flag of the entry in progress
(NONE until R172 decides it: log 53), `doneFlag` that of the entry last completed (R181), `imageLane` the lane the image entry ran in, `imageMode`
the mode it used, `slept` the records failed SLEPT in this entry; the wake timer's left time is in
milliseconds. -/
structure SleepState where
  record : Option SleepRec
  step : Option SleepStep
  hold : HoldTimer
  image : ImageEntry
  imageFlag : ImageFlag
  doneFlag : ImageFlag
  imageLane : Option (Fin 16)
  imageMode : Mode
  started : Bool
  slept : Nat
  wakeTimer : Option Nat
  lastWake : WakeCause
  wakeCount : Half
  cover : CoverResult
deriving DecidableEq, Repr

/-- The input monitor (10.6): raw and debounced levels with bit 0 NEXT to bit 5 RADIO_WAKE, the six
debounce timers (stopped, or milliseconds left), and the snapshot latch. -/
structure Inputs where
  raw : BitVec 6
  debounced : BitVec 6
  timers : Vector (Option Nat) 6
  snapshot : BitVec 6
  closed : Bool
deriving DecidableEq, Repr

/-- The power engine (chapters 9 and 10). -/
structure Power where
  settings : PowerSettings
  vb : Int
  ib : Int
  batteryTemp : Int
  panelTemp : Int
  gauge : Gauge
  batteryLow : Bool
  vopen : Int
  h : Nat
  imaxEff : Nat
  budget : Nat
  radioClaim : Nat
  hot : Bool
  shortfall : Bool
  mark : Bool
  measurements : Word
  nextMeasure : Nat
  state : PowerState
  returnState : PowerState
  sleep : SleepState
  inputs : Inputs
deriving DecidableEq, Repr

/-- Sleep entry after any reset (R167, R181). -/
def SleepState.reset : SleepState where
  record := none
  step := none
  hold := .stopped
  image := .absent
  imageFlag := .none
  doneFlag := .none
  imageLane := none
  imageMode := .settle
  started := false
  slept := 0
  wakeTimer := none
  lastWake := .none
  wakeCount := 0
  cover := .none

/-- The input monitor after a reset that reads the given raw levels (R179, R180). -/
def Inputs.reset (raw : BitVec 6) : Inputs where
  raw := raw
  debounced := raw
  timers := Vector.replicate 6 none
  snapshot := raw
  closed := false

/-- The power engine after a power-on reset that reads the given raw input levels (R152, R166, R167).
DESIGN CHOICE (log 13): Vopen, H and Imax_eff are 0 until the first measurement. -/
def Power.reset (raw : BitVec 6) : Power where
  settings := PowerSettings.reset
  vb := 0
  ib := 0
  batteryTemp := 0
  panelTemp := 0
  gauge := ⟨0, 0, false, .none, 0⟩
  batteryLow := false
  vopen := 0
  h := 0
  imaxEff := 0
  budget := 0
  radioClaim := 0
  hot := false
  shortfall := false
  mark := false
  measurements := 0
  nextMeasure := 250
  state := .run
  returnState := .run
  sleep := SleepState.reset
  inputs := Inputs.reset raw

/-! ## Faults and notices (chapter 11) -/

/-- The fault kinds of the four engines (11.1). -/
inductive FaultKind where
  | waveformBad | tempRange | uncertain | clipped | budgetWait
  | grantLimited | sensorLost
  | overrun | abort | crc | size | unknownKind | unknownParcel | blockRange | blockLength | stalled | digest
  | brownout | budgetShort | batteryHot | gaugeClamp
deriving DecidableEq, Repr

/-- A fault frame (R182); the engine code is the engine's own. -/
structure FaultFrame where
  kind : Option FaultKind
  origin : Option ReqRef
  accrued : BitVec 16
  detail : BitVec 128
deriving DecidableEq, Repr

/-- An engine's fault state (R182, R187). -/
structure FaultState where
  accrued : BitVec 16
  posted : Option FaultKind
  count : Byte
  frame : FaultFrame
deriving DecidableEq, Repr

/-- An empty fault state (R182). -/
def FaultState.empty : FaultState := ⟨0, none, 0, ⟨none, none, 0, 0⟩⟩

/-! ## The whole part -/

/-- The state of the ZE-412. `held` is the status block as page memory shows it in SLEEP, while the
writes to it are held (R165, R177); `wakePulse` the milliseconds left of a wake pulse (R169). Three fields are the
model's own: `scanned`, that the start scan of the present event has run (R58, R61; log 46); `free`, the counter
the free values are applied to (log 5); `pending`, the commands that wait. -/
structure State where
  mem : Memory
  port : Port
  readers : Vector Reader 4
  reports : List (Fin 4 × Watch)
  conds : Conditions
  panel : Panel
  light : Light
  link : Link
  power : Power
  faults : Vector FaultState 4
  notices : BitVec 10
  wakePulse : Option Nat
  held : Option (List Byte)
  scanned : Bool
  free : Nat
  pending : List Instr
deriving DecidableEq, Repr

/-- The condition values after a reset (2.1): ALWAYS and RING_LOW true, CHARGER as the input level read
in the reset. -/
def Conditions.reset (raw : BitVec 6) : Conditions where
  values := if raw.getLsbD 3 then 0x0023 else 0x0021
  count := 0
  bumped := false

/-- The machine right after a power-on reset has ended (R20 and the reset rule of each chapter).
DESIGN CHOICE: page memory lists nothing (log 1), the raw input levels are low (log 12) and the free
counter is 0 (log 5). -/
def State.reset : State where
  mem := []
  port := ⟨false, [], []⟩
  readers := Vector.replicate 4 Reader.reset
  reports := []
  conds := Conditions.reset 0
  panel := Panel.reset
  light := Light.reset
  link := Link.reset
  power := Power.reset 0
  faults := Vector.replicate 4 FaultState.empty
  notices := 0
  wakePulse := none
  held := none
  scanned := false
  free := 0
  pending := []

/-- Why the machine stops. -/
inductive Fault where
  /-- Raised by a host access with an address outside 0x0000000 to 0x3FFFFFF, where there is no page
  memory (chapter 1). Safe: the model stops where the manual gives nothing. -/
  | outsidePageMemory (addr : Nat)
deriving DecidableEq, Repr

/-- Why a command has no meaning here. -/
inductive Refusal where
  /-- Raised by `exec` for a command whose meaning is not written yet. Safe. -/
  | notModelled (mnemonic : String)
  /-- Raised by a command whose operands no command of the table has (`Instr.wellFormed`). Safe. -/
  | illFormed
deriving DecidableEq, Repr

end Sys2Proof.Machine
end

