-- ==== Sys2Proof/Machine/Ops.lean ====
section
/-! DEFINITION. Named operations over page memory and bytes: little-endian fields, reading and writing
page memory in its canonical form, and the two CRCs. -/

namespace Sys2Proof.Machine

/-! ## Little-endian bytes (Conventions, Byte order and packing) -/

/-- The low `n` bytes of a number, lowest first. -/
def leBytes : Nat → Nat → List Byte
  | 0, _ => []
  | n + 1, v => BitVec.ofNat 8 v :: leBytes n (v / 256)

/-- The number whose bytes, lowest first, are given. -/
def leNat : List Byte → Nat
  | [] => 0
  | b :: bs => b.toNat + 256 * leNat bs

/-- The low `n` bytes of a signed number in two's complement. -/
def leInt (n : Nat) (v : Int) : List Byte :=
  leBytes n (v % (256 ^ n : Nat)).toNat

/-- The signed number that a byte stands for. -/
def signedByte (b : Byte) : Int := b.toInt

/-- A flag as a byte. -/
def flagByte (b : Bool) : Byte := if b then 1 else 0

/-- The number whose bits, bit 0 first, are the given flags. -/
def bitsNat : List Bool → Nat
  | [] => 0
  | b :: bs => (if b then 1 else 0) + 2 * bitsNat bs

/-- Items of an outcome detail or of a fault frame detail, packed from byte 0 (R190): each has its size in
bytes and its value. -/
def packItems : List (Nat × Nat) → Nat
  | [] => 0
  | (n, v) :: rest => v % 256 ^ n + 256 ^ n * packItems rest

/-- The fourteen detail bytes of an outcome from its items. -/
def outcomeDetail (items : List (Nat × Nat)) : BitVec 112 := BitVec.ofNat 112 (packItems items)

/-- The sixteen detail bytes of a fault frame from its items. -/
def frameDetail (items : List (Nat × Nat)) : BitVec 128 := BitVec.ofNat 128 (packItems items)

/-- A signed value as an item of two bytes. -/
def signedItem (n : Nat) (v : Int) : Nat × Nat := (n, (v % (256 ^ n : Nat)).toNat)

/-! ## Page memory -/

/-- The canonical form: addresses strictly rising, and no entry equal to what an unlisted address reads
as. -/
def Memory.wf : Memory → Bool
  | [] => true
  | (_, v) :: [] => v != Config.blankByte
  | (a, v) :: (b, w) :: m =>
    v != Config.blankByte && decide (a < b) && Memory.wf ((b, w) :: m)

/-- The byte at an address. -/
def Memory.read : Memory → Nat → Byte
  | [], _ => Config.blankByte
  | (a, v) :: m, x => if a = x then v else Memory.read m x

/-- Writes one byte and keeps the canonical form. -/
def Memory.write : Memory → Nat → Byte → Memory
  | [], x, v => if v = Config.blankByte then [] else [(x, v)]
  | (a, w) :: m, x, v =>
    if x < a then
      if v = Config.blankByte then (a, w) :: m else (x, v) :: (a, w) :: m
    else if x = a then
      if v = Config.blankByte then m else (x, v) :: m
    else (a, w) :: Memory.write m x v

/-- Writes bytes at consecutive addresses. -/
def Memory.writeBytes (m : Memory) (a : Nat) : List Byte → Memory
  | [] => m
  | b :: bs => Memory.writeBytes (m.write a b) (a + 1) bs

/-- `n` bytes from an address. -/
def Memory.readBytes (m : Memory) (a : Nat) : Nat → List Byte
  | 0 => []
  | n + 1 => m.read a :: Memory.readBytes m (a + 1) n

/-- The little-endian field of `n` bytes at an address. -/
def Memory.field (m : Memory) (a n : Nat) : Nat := leNat (m.readBytes a n)

/-- The memory in canonical form that holds the given bytes, a later one before an earlier one. -/
def Memory.ofCells : List Host.Cell → Memory
  | [] => []
  | (a, v) :: cs => Memory.write (Memory.ofCells cs) (a % Config.pageMemorySize) v

/-- Bytes from `a` to `a + n - 1` lie in 0x0000400 to 0x2FFFFFF (the PROTECTED checks). A length of 0
names no byte. -/
def inHostArea (a n : Nat) : Bool :=
  n == 0 || (decide (Config.hostAreaStart ≤ a) && decide (a + n ≤ Config.hostAreaEnd))

/-! ## The CRC-32 of R47 and R144 -/

/-- One bit of the reflected 32-bit CRC with generator 0x04C11DB7. -/
def crc32Bit (x : Word) : Word :=
  if x.getLsbD 0 then (x >>> 1) ^^^ 0xEDB88320 else x >>> 1

/-- One byte, taken low bit first. -/
def crc32Byte (x : Word) (b : Byte) : Word :=
  let x := x ^^^ b.zeroExtend 32
  crc32Bit (crc32Bit (crc32Bit (crc32Bit (crc32Bit (crc32Bit (crc32Bit (crc32Bit x)))))))

/-- The running CRC over bytes. -/
def crc32Over (x : Word) (bs : List Byte) : Word := bs.foldl crc32Byte x

/-- The preset of all ones. -/
def crc32Preset : Word := 0xFFFFFFFF

/-- The CRC-32 of bytes: preset to all ones, final value inverted. -/
def crc32 (bs : List Byte) : Word := ~~~ (crc32Over crc32Preset bs)

/-! ## The link CRC-16 of R124 -/

/-- One bit of the 16-bit CRC with generator 0x1021. -/
def crc16Bit (x : BitVec 16) : BitVec 16 :=
  if x.getLsbD 15 then (x <<< 1) ^^^ 0x1021 else x <<< 1

/-- One byte, taken most significant bit first. -/
def crc16Byte (x : BitVec 16) (b : Byte) : BitVec 16 :=
  let x := x ^^^ (b.zeroExtend 16 <<< 8)
  crc16Bit (crc16Bit (crc16Bit (crc16Bit (crc16Bit (crc16Bit (crc16Bit (crc16Bit x)))))))

/-- The preset of all ones. -/
def crc16Preset : BitVec 16 := 0xFFFF

/-- The CRC-16 of bytes, without a final inversion. -/
def crc16 (bs : List Byte) : BitVec 16 := bs.foldl crc16Byte crc16Preset

/-! ## Named updates of the state -/

/-- Page memory replaced. -/
def State.withMem (s : State) (v : Memory) : State := { s with mem := v }
/-- The port replaced. -/
def State.withPort (s : State) (v : Port) : State := { s with port := v }
/-- The readers replaced. -/
def State.withReaders (s : State) (v : Vector Reader 4) : State := { s with readers := v }
/-- The watched writes that wait replaced. -/
def State.withReports (s : State) (v : List (Fin 4 × Watch)) : State := { s with reports := v }
/-- The condition set replaced. -/
def State.withConds (s : State) (v : Conditions) : State := { s with conds := v }
/-- The panel engine replaced. -/
def State.withPanel (s : State) (v : Panel) : State := { s with panel := v }
/-- The light engine replaced. -/
def State.withLight (s : State) (v : Light) : State := { s with light := v }
/-- The link engine replaced. -/
def State.withLink (s : State) (v : Link) : State := { s with link := v }
/-- The power engine replaced. -/
def State.withPower (s : State) (v : Power) : State := { s with power := v }
/-- The fault states replaced. -/
def State.withFaults (s : State) (v : Vector FaultState 4) : State := { s with faults := v }
/-- The NOTICE set replaced. -/
def State.withNotices (s : State) (v : BitVec 10) : State := { s with notices := v }
/-- The wake pulse replaced. -/
def State.withWakePulse (s : State) (v : Option Nat) : State := { s with wakePulse := v }
/-- The held status block replaced. -/
def State.withHeld (s : State) (v : Option (List Byte)) : State := { s with held := v }
/-- Whether the start scan of the present event has run, replaced. -/
def State.withScanned (s : State) (v : Bool) : State := { s with scanned := v }
/-- The free counter replaced. -/
def State.withFree (s : State) (v : Nat) : State := { s with free := v }
/-- The waiting commands replaced. -/
def State.withPending (s : State) (v : List Instr) : State := { s with pending := v }

/-- One reader replaced. -/
def State.withReader (s : State) (k : Fin 4) (r : Reader) : State :=
  s.withReaders (s.readers.set k.1 r k.2)

/-- The turn ring replaced. -/
def State.withRing (s : State) (r : Ring) : State := s.withPanel { s.panel with ring := r }

/-- One lane replaced. -/
def State.withLane (s : State) (n : Fin 16) (l : Lane) : State :=
  s.withPanel { s.panel with lanes := s.panel.lanes.set n.1 l n.2 }

/-- One parcel record replaced. -/
def State.withParcel (s : State) (r : Fin 8) (p : Parcel) : State :=
  s.withLink { s.link with parcels := s.link.parcels.set r.1 p r.2 }

/-- Sleep entry and wake replaced. -/
def State.withSleep (s : State) (v : SleepState) : State := s.withPower { s.power with sleep := v }

/-- The power state is SLEEP. -/
def State.asleep (s : State) : Bool := s.power.state == .sleep

end Sys2Proof.Machine
end

