-- ==== Sys2Proof/Machine/Codes.lean ====
section
/-! DEFINITION. The codes that records, outcomes and operands carry for the model's names (1.3, 11.1,
11.4, 12.4, 12.5). -/

namespace Sys2Proof.Machine

/-- Engine codes 1 to 4. -/
def engineCode : Engine → Nat
  | .panel => 1 | .light => 2 | .link => 3 | .power => 4

/-- The engine of a slot's engine field, for 1 to 4. -/
def engineOf (e : BitVec 3) : Option Engine :=
  if e = 1 then some .panel
  else if e = 2 then some .light
  else if e = 3 then some .link
  else if e = 4 then some .power
  else none

/-- The place of an engine among the four fault states. -/
def engineIdx : Engine → Fin 4
  | .panel => 0 | .light => 1 | .link => 2 | .power => 3

/-- Outcome state codes (1.3). -/
def OutcomeState.code : OutcomeState → Byte
  | .pending => 0 | .skipped => 1 | .refused => 2 | .queued => 3 | .started => 4 | .done => 5
  | .cancelled => 6 | .failed => 7

/-- The final outcome states (1.3). -/
def OutcomeState.final : OutcomeState → Bool
  | .pending => false | .queued => false | .started => false
  | .skipped => true | .refused => true | .done => true | .cancelled => true | .failed => true

/-- Reason codes (11.4). -/
def Reason.code : Reason → Byte
  | .none => 0 | .illegal => 1 | .range => 2 | .busy => 3 | .sleeping => 4 | .protectedArea => 5
  | .noWaveform => 6 | .waveformBad => 7 | .temperature => 8 | .uncertain => 9 | .clipped => 10
  | .budgetWait => 11 | .halted => 12 | .tooLate => 13 | .slotCurrent => 14 | .slotEmpty => 15
  | .duplicate => 16 | .tableFull => 17 | .tooLarge => 18 | .stalled => 19 | .digest => 20
  | .abandoned => 21 | .cancelled => 22 | .slept => 23 | .aborted => 24 | .noBudget => 25
  | .postedFault => 26

/-- Reader state codes (12.4). -/
def ReaderState.code : ReaderState → Byte
  | .idle => 0 | .reading => 1 | .handing => 2 | .awaitLink => 3 | .stopped => 4

/-- Hold cause codes (12.4). -/
def HoldCause.code : HoldCause → Byte
  | .none => 0 | .barrier => 1 | .queueRoom => 2 | .listRoom => 3

/-- Chain fault cause codes (12.4). -/
def ChainCause.code : ChainCause → Byte
  | .none => 0 | .misaligned => 1 | .outside => 2 | .anchor => 3 | .inUse => 4

/-- Mode codes (R39). -/
def Mode.code : Mode → Nat
  | .settle => 0 | .tone => 1 | .crisp => 2 | .swift => 3

/-- The mode of a code; codes above 3 name none (R39). -/
def modeOf (n : Nat) : Option Mode :=
  if n = 0 then some .settle
  else if n = 1 then some .tone
  else if n = 2 then some .crisp
  else if n = 3 then some .swift
  else none

/-- Entry origin kind codes (12.4). -/
def EntryOrigin.code : EntryOrigin → Nat
  | .request _ => 0 | .ring _ _ => 1 | .sleep _ => 2

/-- The request an entry reports to (R59). -/
def EntryOrigin.report : EntryOrigin → Option ReqRef
  | .request r => some r
  | .ring _ r => r
  | .sleep r => r

/-- The entry came from the ring. -/
def EntryOrigin.isRing : EntryOrigin → Bool
  | .ring _ _ => true
  | _ => false

/-- The entry carries a sleep image. -/
def EntryOrigin.isSleep : EntryOrigin → Bool
  | .sleep _ => true
  | _ => false

/-- Lane state codes (12.4). -/
def LaneState.code : LaneState → Nat
  | .free => 0 | .loading => 1 | .driving => 2 | .closing => 3

/-- Set state codes (3.5). -/
def SetState.code : SetState → Nat
  | .absent => 0 | .loading _ => 1 | .valid => 2

/-- The set is VALID. -/
def SetState.isValid : SetState → Bool
  | .valid => true
  | _ => false

/-- The set is ABSENT. -/
def SetState.isAbsent : SetState → Bool
  | .absent => true
  | _ => false

/-- The set is LOADING. -/
def SetState.isLoading : SetState → Bool
  | .loading _ => true
  | _ => false

/-- Range state codes (12.4). -/
def RangeState.code : RangeState → Nat
  | .inRange => 0 | .outLow => 1 | .outHigh => 2

/-- Tag codes (12.4). -/
def Tag.code : Tag → Nat
  | .empty => 0 | .ready => 1 | .shown => 2

/-- Direction codes (R86). -/
def Dir.code : Dir → Nat
  | .next => 0 | .prev => 1

/-- The opposite direction. -/
def Dir.flip : Dir → Dir
  | .next => .prev | .prev => .next

/-- The direction of a held turn. -/
def HeldTurn.dir : HeldTurn → Dir
  | .slotEmpty d => d
  | .queueFull d _ _ _ => d

/-- Held turn codes of the ring result detail (R93). -/
def heldCode : Option HeldTurn → Nat
  | none => 0
  | some (.slotEmpty .next) => 1
  | some (.slotEmpty .prev) => 2
  | some (.queueFull .next _ _ _) => 3
  | some (.queueFull .prev _ _ _) => 4

/-- Receiver state codes (12.4). -/
def RxState.code : RxState → Nat
  | .hunt => 0 | .idle => 1 | .frame _ => 2 | .discard _ => 3

/-- Parcel record state codes (8.1). -/
def ParcelState.code : ParcelState → Nat
  | .free => 0 | .armed => 1 | .filling => 2 | .verifying => 3 | .complete => 4 | .failed => 5

/-- Clamp codes (12.4). -/
def Clamp.code : Clamp → Nat
  | .none => 0 | .atEmpty => 1 | .atFull => 2

/-- Power state codes (chapter 10). -/
def PowerState.code : PowerState → Nat
  | .run => 0 | .doze => 1 | .sleepPending => 2 | .sleep => 3

/-- Sleep step codes (R174); 0 when there is no step. -/
def stepCode : Option SleepStep → Nat
  | none => 0
  | some .draining => 1
  | some .imaging => 2
  | some .darkening => 3

/-- Sleep origin codes (12.4). -/
def SleepOrigin.code : SleepOrigin → Nat
  | .none => 0 | .request _ => 1 | .cover => 2

/-- Image flag codes (R173). -/
def ImageFlag.code : ImageFlag → Nat
  | .none => 0 | .drawn => 1 | .skipped => 2

/-- Wake cause codes, in the order of 10.1. -/
def WakeCause.code : WakeCause → Nat
  | .none => 0 | .button => 1 | .coverOpen => 2 | .chargerChange => 3 | .radioWake => 4 | .timer => 5
  | .hostAccess => 6 | .charger => 7

/-- Cover result codes (12.4). -/
def CoverResult.code : CoverResult → Nat
  | .none => 0 | .started => 1 | .refusedImage => 2 | .refusedState => 3

/-- The engine of a fault kind (11.1). -/
def FaultKind.engine : FaultKind → Engine
  | .waveformBad | .tempRange | .uncertain | .clipped | .budgetWait => .panel
  | .grantLimited | .sensorLost => .light
  | .overrun | .abort | .crc | .size | .unknownKind | .unknownParcel | .blockRange | .blockLength
  | .stalled | .digest => .link
  | .brownout | .budgetShort | .batteryHot | .gaugeClamp => .power

/-- The kind code within the engine; a lower code is a higher priority (11.1). -/
def FaultKind.code : FaultKind → Nat
  | .waveformBad => 1 | .tempRange => 2 | .uncertain => 3 | .clipped => 4 | .budgetWait => 5
  | .grantLimited => 1 | .sensorLost => 2
  | .overrun => 1 | .abort => 2 | .crc => 3 | .size => 4 | .unknownKind => 5 | .unknownParcel => 6
  | .blockRange => 7 | .blockLength => 8 | .stalled => 9 | .digest => 10
  | .brownout => 1 | .budgetShort => 2 | .batteryHot => 3 | .gaugeClamp => 4

/-- The code of the kind in a posted place or frame, 0 when there is none. -/
def kindCode : Option FaultKind → Nat
  | none => 0
  | some k => k.code

/-- The flag of a kind in an accrued set: bit `k - 1` for kind code `k` (12.4). -/
def FaultKind.flag (k : FaultKind) : BitVec 16 := 1#16 <<< (k.code - 1)

/-- The ten notice causes (12.5). -/
inductive Cause where
  | chain (k : Fin 4)
  | fault | ring | parcel | input | wake | battery
deriving DecidableEq, Repr

/-- The bit of a cause in the NOTICE register (12.5). -/
def Cause.bit : Cause → Nat
  | .chain k => k.1
  | .fault => 4 | .ring => 5 | .parcel => 6 | .input => 7 | .wake => 8 | .battery => 9

/-- The set of one cause. -/
def Cause.flag (c : Cause) : BitVec 10 := 1#10 <<< c.bit

/-- The bit of an input in the snapshot and level bytes (12.4). -/
def inputBit : Input → Fin 6
  | .next => 0 | .prev => 1 | .cover => 2 | .charger => 3 | .chargeDone => 4 | .radioWake => 5

end Sys2Proof.Machine
end

