-- ==== Sys2Proof/Machine/Operands.lean ====
section
/-! DEFINITION. Operand fields of the requests (12.2), the operand bytes that each request defines as zero
(R27), and the settings records with their checks (12.3, R35, R96, R116, R154). -/

namespace Sys2Proof.Machine

/-! ## Fields of the operand area -/

/-- Operand byte `i`. -/
def opByte (ops : Operands) (i : Nat) : Byte := ops.extractLsb' (8 * i) 8

/-- The two-byte operand at offset `i`. -/
def opHalf (ops : Operands) (i : Nat) : Half := ops.extractLsb' (8 * i) 16

/-- The four-byte operand at offset `i`. -/
def opWord (ops : Operands) (i : Nat) : Word := ops.extractLsb' (8 * i) 32

/-- The operand bytes of each request, as offset and size (12.2); the bytes not named are defined zero. A
Test names the parcel number only for link selectors 1 and 2 (R28), and a Set light leaves its level unused beside the
auto flag 1 (R99, 6.8), so that R27 defines it zero there. DEDUCED (log 36): R98's "not refused" speaks of the level
at step 4, and leaves step 2 as it is. -/
def namedBytes (e : Engine) (ops : Operands) : RequestName → List (Nat × Nat)
  | .configurePanel | .configureLight | .configureLink | .configurePower => [(0, 4)]
  | .loadWaveformSet => [(0, 8)]
  | .updateRegion => [(0, 15)]
  | .cancelUpdate => [(0, 5)]
  | .stagePage => [(0, 1), (4, 5), (12, 4)]
  | .freeSlot | .showSlot | .ringReset | .turn => [(0, 1)]
  | .setLight => if opByte ops 3 = 1 then [(2, 2)] else [(0, 4)]
  | .armParcel => [(0, 2), (4, 8)]
  | .cancelParcel | .releaseParcel => [(0, 2)]
  | .reportParcel => [(0, 1)]
  | .setCharge => [(0, 2)]
  | .sleep => [(0, 8)]
  | .setConditions => [(0, 2)]
  | .test =>
    if e = .link ∧ (opByte ops 0 = 1 ∨ opByte ops 0 = 2) then [(0, 5), (6, 6)] else [(0, 5), (8, 4)]
  | .radioOn | .radioOff | .doze | .cancelSleep | .acknowledgeInputs | .clearFaults => []

/-- The operand byte lies in one of the named fields. -/
def inFields (fields : List (Nat × Nat)) (i : Nat) : Bool :=
  fields.any fun f => decide (f.1 ≤ i) && decide (i < f.1 + f.2)

/-- Every operand byte outside the named fields holds 0. -/
def zeroOutside (fields : List (Nat × Nat)) (ops : Operands) : Bool :=
  (List.range 20).all fun i => inFields fields i || opByte ops i == 0

/-- R27, step 2: every operand byte that the request defines as zero holds 0, and for Sleep the three
unused flags of the wake set byte too (R170). -/
def zeroOperands (e : Engine) (r : RequestName) (ops : Operands) : Bool :=
  zeroOutside (namedBytes e ops r) ops &&
    match r with
    | .sleep => decide ((opByte ops 5).toNat < 32)
    | _ => true

/-! ## Settings records -/

/-- Byte `i` of a record. -/
def recByte (r : List Byte) (i : Nat) : Nat := (r.getD i 0).toNat

/-- The two-byte field at offset `i` of a record. -/
def recHalf (r : List Byte) (i : Nat) : Nat := recByte r i + 256 * recByte r (i + 1)

/-- The four-byte field at offset `i` of a record. -/
def recWord (r : List Byte) (i : Nat) : Nat := recHalf r i + 65536 * recHalf r (i + 2)

/-- The bytes from `i`, `n` of them, hold 0. -/
def recZero (r : List Byte) (i n : Nat) : Bool := (List.range n).all fun j => recByte r (i + j) == 0

/-- A value lies in a range with both ends. -/
def between (lo v hi : Nat) : Bool := decide (lo ≤ v) && decide (v ≤ hi)

/-- Checks 3 and 4 of R35 on a 32-byte panel settings record; NONE when both pass. -/
def checkPanelRecord (r : List Byte) : Reason :=
  if !(recZero r 9 23 && decide (recByte r 7 < 4) && decide (recByte r 8 < 16)) then .illegal
  else if !(between 256 (recHalf r 0) 2048 && recHalf r 0 % 8 == 0 && between 256 (recHalf r 2) 2048
      && between 8 (recByte r 4) 50 && between 0 (recByte r 5) 7 && between 0 (recByte r 6) 100) then .range
  else .none

/-- The settings of a panel settings record (12.3). -/
def panelRecord (r : List Byte) : PanelSettings where
  width := recHalf r 0
  height := recHalf r 2
  framePeriod := recByte r 4
  lowWater := recByte r 5
  budgetLimit := recByte r 6
  restoreOnWake := (recByte r 7).testBit 0
  turnOnWake := (recByte r 7).testBit 1
  mask :=
    { tempRange := (recByte r 8).testBit 0
      uncertain := (recByte r 8).testBit 1
      clipped := (recByte r 8).testBit 2
      budgetWait := (recByte r 8).testBit 3 }

/-- Points `0` to `n - 1` of a light settings record (12.3): lux and level. -/
def lightPoints (r : List Byte) (n : Nat) : List (Nat × Nat) :=
  (List.range n).map fun i => (recHalf r (8 + 4 * i), recHalf r (10 + 4 * i))

/-- Each lux is greater than the one before it and each level at most 1000 (R96). -/
def pointsOk : List (Nat × Nat) → Bool
  | [] => true
  | [p] => decide (p.2 ≤ 1000)
  | p :: q :: rest => decide (p.2 ≤ 1000) && decide (p.1 < q.1) && pointsOk (q :: rest)

/-- Checks 2 and 3 of R96 on a 48-byte light settings record; NONE when both pass. -/
def checkLightRecord (r : List Byte) : Reason :=
  if !(recZero r 40 8 && recZero r (8 + 4 * recByte r 4) (32 - 4 * recByte r 4)
      && decide (recByte r 5 < 4)) then .illegal
  else if !(between 5 (recByte r 0) 100 && between 5 (recByte r 1) 100 && between 1 (recHalf r 2) 4095
      && between 2 (recByte r 4) 8 && between 0 (recHalf r 6) 200
      && pointsOk (lightPoints r (recByte r 4))) then .range
  else .none

/-- The settings of a light settings record (12.3). -/
def lightRecord (r : List Byte) : LightSettings where
  ifw := recByte r 0
  ifc := recByte r 1
  step := recHalf r 2
  points := lightPoints r (recByte r 4)
  hysteresis := recHalf r 6
  grantLimited := (recByte r 5).testBit 0
  sensorLost := (recByte r 5).testBit 1

/-- Checks 2 and 3 of R116 on a 16-byte link settings record; NONE when both pass. -/
def checkLinkRecord (r : List Byte) : Reason :=
  if !(recZero r 8 8 && decide (recHalf r 6 < 1024)) then .illegal
  else if !(between 1 (recByte r 0) 254 && between 0 (recByte r 1) 1 && between 1 (recByte r 2) 60
      && between 1 (recByte r 3) 15 && between 0 (recHalf r 4) 800) then .range
  else .none

/-- The settings of a link settings record (12.3). -/
def linkRecord (r : List Byte) : LinkSettings where
  station := BitVec.ofNat 8 (recByte r 0)
  filter := recByte r 1 == 1
  quietTime := recByte r 2
  gapLimit := recByte r 3
  current := recHalf r 4
  mask := BitVec.ofNat 10 (recHalf r 6)

/-- Checks 2 and 3 of R154 on a 48-byte power settings record; NONE when both pass. -/
def checkPowerRecord (r : List Byte) : Reason :=
  if !(recZero r 23 1 && recZero r 28 20 && decide (recByte r 15 < 8) && decide (recByte r 20 < 4)
      && decide (recByte r 22 < 16)) then .illegal
  else if !(between 0 (recHalf r 0) 20000 && between 20 (recHalf r 2) 2000
      && between 2800 (recHalf r 4) 3600 && between 2900 (recHalf r 6) 3400
      && between 3000 (recHalf r 8) 3600 && between 100 (recHalf r 10) 3000
      && between 0 (recHalf r 12) 500 && between 40 (recByte r 14) 70
      && between 0 (recHalf r 16) 500 && between 0 (recHalf r 18) 600
      && between 0 (recByte r 21) 3) then .range
  else .none

/-- The settings of a power settings record (12.3). -/
def powerRecord (r : List Byte) : PowerSettings where
  capacity := recHalf r 0
  resistance := recHalf r 2
  vfloor := recHalf r 4
  vcut := recHalf r 6
  vempty := recHalf r 8
  imax := recHalf r 10
  reserve := recHalf r 12
  hotLimit := recByte r 14
  lowThreshold := recHalf r 16
  budgetShort := (recByte r 15).testBit 0
  batteryHot := (recByte r 15).testBit 1
  gaugeClamp := (recByte r 15).testBit 2
  downloadHold := recHalf r 18
  wakeToDoze := (recByte r 20).testBit 0
  coverSleep := (recByte r 20).testBit 1
  coverImage := BitVec.ofNat 32 (recWord r 24)
  coverMode := (modeOf (recByte r 21)).getD .settle
  coverWake := BitVec.ofNat 5 (recByte r 22)

end Sys2Proof.Machine
end

