-- ==== Sys2Proof/Machine/Flags.lean ====
section
/-! DEFINITION. Flags that follow the state: the engine-owned conditions (R22), the condition set with its
change count (R21), the user conditions (R23), the NOTICE set, the notice line, the wake pulse and
LINK_READY. -/

namespace Sys2Proof.Machine

/-! ## The turn ring's ahead count (R80) -/

/-- The slot a turn in direction `d` would reach from `i`. -/
def ringStep (i : Fin 8) : Dir → Fin 8
  | .next => i + 1
  | .prev => i - 1

/-- The target of a direction (5.1). -/
def Ring.target (r : Ring) (d : Dir) : Fin 8 := ringStep r.current d

/-- Consecutive READY slots from `i` in direction `d`, at most `n` of them. -/
def readyRun (slots : Vector RingSlot 8) (d : Dir) : Nat → Fin 8 → Nat
  | 0, _ => 0
  | n + 1, i => if slots[i].tag = .ready then 1 + readyRun slots d n (ringStep i d) else 0

/-- R80: consecutive READY slots beyond the current slot in the last turn direction, after seven slots at
most. -/
def Ring.ahead (r : Ring) : Nat := readyRun r.slots r.dir 7 (r.target r.dir)

/-! ## Engine-owned conditions -/

/-- RING_LOW (R80). -/
def ringLow (p : Panel) : Bool := decide (p.ring.ahead < p.settings.lowWater)

/-- A lane is FREE. -/
def Lane.isFree (l : Lane) : Bool := l.state == .free

/-- Every lane is FREE. -/
def allLanesFree (p : Panel) : Bool := p.lanes.toList.all Lane.isFree

/-- PANEL_BUSY (R77). -/
def panelBusy (p : Panel) : Bool := !allLanesFree p || !p.queue.isEmpty

/-- LIGHT_ON (R112). -/
def lightOn (l : Light) : Bool := decide (0 < l.pw) || decide (0 < l.pc)

/-- RADIO_UP (R126). -/
def radioUp (l : Link) : Bool := l.connected && l.rail

/-- PARCEL_READY (R149). -/
def parcelReady (l : Link) : Bool := l.parcels.toList.any fun p => p.state == .complete

/-- CHARGER: the debounced CHARGER input is high (2.1). -/
def chargerHigh (s : State) : Bool := s.power.inputs.debounced.getLsbD 3

/-- Conditions 0 to 7 as their owners' state has them (2.1). -/
def ownedConditions (s : State) : BitVec 8 :=
  BitVec.ofNat 8 (bitsNat [true, chargerHigh s, s.power.batteryLow, radioUp s.link, parcelReady s.link,
    ringLow s.panel, lightOn s.light, panelBusy s.panel])

/-- The sixteen conditions: the user conditions as last written, the others as their owners have them. -/
def conditionsNow (s : State) : BitVec 16 :=
  (s.conds.values &&& 0xFF00) ||| (ownedConditions s).zeroExtend 16

/-- A condition value the host area slots can name. -/
def condition (s : State) (q : Byte) : Bool := s.conds.values.getLsbD q.toNat

/-- New condition values: a change raises the change count once in an event (R21). -/
def setConditions (v : BitVec 16) (s : State) : State :=
  if v = s.conds.values then s
  else s.withConds
    { values := v
      count := if s.conds.bumped then s.conds.count else s.conds.count + 1
      bumped := true }

/-- The conditions record follows the owners' state (R21, R22; log 10). -/
def noteConditions (s : State) : State := setConditions (conditionsNow s) s

/-- The user conditions 8 to 15, condition 8 at bit 0. -/
def userConditions (s : State) : Byte := s.conds.values.extractLsb' 8 8

/-- Writes a user condition; a target of 0 names none (R28, R23). -/
def writeUser (target : Nat) (v : Bool) (s : State) : State :=
  if between 8 target 15 then
    setConditions
      (if v then s.conds.values ||| (1#16 <<< target) else s.conds.values &&& ~~~(1#16 <<< target)) s
  else s

/-! ## Notices (11.3) and the host lines -/

/-- Adds a cause to the NOTICE set (R188). -/
def addCause (c : Cause) (s : State) : State := s.withNotices (s.notices ||| c.flag)

/-- The wake line is pulsed for 1 ms; a pulse asked for during one merges into it (R169). -/
def pulse (s : State) : State :=
  match s.wakePulse with
  | none => s.withWakePulse (some 1)
  | some _ => s

/-- The wake-class causes, FAULT apart (R169). -/
def Cause.wakeClass : Cause → Bool
  | .ring | .wake | .battery | .parcel => true
  | .chain _ | .fault | .input => false

/-- A block raises a cause: the cause joins the set, and in DOZE a wake-class cause pulses the wake line
(R169, R188). -/
def raise (c : Cause) (s : State) : State :=
  let t := addCause c s
  if s.power.state = .doze ∧ c.wakeClass then pulse t else t

/-- FAULT raised: by a nonmaskable fault it is a wake-class cause in DOZE, by a maskable posting not
(R184). -/
def raiseFault (nonmaskable : Bool) (s : State) : State :=
  let t := addCause .fault s
  if s.power.state = .doze ∧ nonmaskable then pulse t else t

/-- The notice line is active while the NOTICE set is not empty and the power state is RUN (R189). -/
def noticeLine (s : State) : Bool := s.notices != 0 && s.power.state == .run

/-- The wake line is active during a pulse (R189). -/
def wakeLine (s : State) : Bool := s.wakePulse.isSome

/-- The NOTICE register as read (12.5). -/
def noticeWord (s : State) : Word := s.notices.zeroExtend 32

/-! ## The link's buffers and LINK_READY -/

/-- Receive buffer states (7.6). -/
inductive BufState where
  | free | collecting | held | handling
deriving DecidableEq, Repr

/-- Buffer state codes (12.4). -/
def BufState.code : BufState → Nat
  | .free => 0 | .collecting => 1 | .held => 2 | .handling => 3

/-- The state of a receive buffer. -/
def bufState (l : Link) (b : Fin 4) : BufState :=
  if l.receiver.state = .frame b then .collecting
  else if b ∈ l.fifo then .held
  else if l.handling = some b then .handling
  else .free

/-- The lowest-numbered FREE buffer (R121). -/
def freeBuffer (l : Link) : Option (Fin 4) :=
  [(0 : Fin 4), 1, 2, 3].find? fun b => bufState l b == .free

/-- LINK_READY is high while the rail is ON and at least one buffer is FREE (R115). -/
def linkReady (l : Link) : Bool := l.rail && (freeBuffer l).isSome

/-! ## Comparators (1.2) -/

/-- Comparator Hk is armed in IDLE and STOPPED. -/
def Reader.headArmed (r : Reader) : Bool := r.state == .idle || r.state == .stopped

/-- Comparator Lk is armed in AWAIT_LINK, on the link word of the current bundle. -/
def Reader.linkArmed (r : Reader) : Bool := r.state == .awaitLink

end Sys2Proof.Machine
end

