-- ==== Sys2Proof/Machine/Faults.lean ====
section
/-! DEFINITION. The fault state of each engine: accrual, posting and the fault frame (11.1, R182 to R184). -/

namespace Sys2Proof.Machine

/-- An engine's fault state. -/
def faultOf (s : State) (e : Engine) : FaultState := s.faults[engineIdx e]

/-- An engine's fault state replaced. -/
def State.withFault (s : State) (e : Engine) (f : FaultState) : State :=
  s.withFaults (s.faults.set (engineIdx e).1 f (engineIdx e).2)

/-- The enable mask flag of a maskable kind; a nonmaskable kind has none and counts as enabled (R182). -/
def faultEnabled (s : State) : FaultKind → Bool
  | .waveformBad | .brownout => true
  | .tempRange => s.panel.settings.mask.tempRange
  | .uncertain => s.panel.settings.mask.uncertain
  | .clipped => s.panel.settings.mask.clipped
  | .budgetWait => s.panel.settings.mask.budgetWait
  | .grantLimited => s.light.settings.grantLimited
  | .sensorLost => s.light.settings.sensorLost
  | .budgetShort => s.power.settings.budgetShort
  | .batteryHot => s.power.settings.batteryHot
  | .gaugeClamp => s.power.settings.gaugeClamp
  | k => s.link.settings.mask.getLsbD (k.code - 1)

/-- An occurrence sets its flag in the accrued set, whatever the mask (R182). -/
def accrue (k : FaultKind) (s : State) : State :=
  let f := faultOf s k.engine
  s.withFault k.engine { f with accrued := f.accrued ||| k.flag }

/-- The occurrence takes the posted place: the place, the frame with the accrued set as it stands, the
posting count, and FAULT (R183, R184, R187). -/
def post (k : FaultKind) (origin : Option ReqRef) (detail : BitVec 128) (nonmaskable : Bool)
    (s : State) : State :=
  let f := faultOf s k.engine
  raiseFault nonmaskable
    (s.withFault k.engine
      { f with
        posted := some k
        count := f.count + 1
        frame := ⟨some k, origin, f.accrued, detail⟩ })

/-- R183: an offered kind takes an empty place or one that holds a lower priority. -/
def takesPlace (posted : Option FaultKind) (k : FaultKind) : Bool :=
  match posted with
  | none => true
  | some q => decide (k.code < q.code)

/-- An occurrence of a maskable kind outside any request (R183). -/
def occur (k : FaultKind) (detail : BitVec 128) (s : State) : State :=
  let t := accrue k s
  if faultEnabled s k && takesPlace (faultOf s k.engine).posted k then post k none detail false t else t

/-- An occurrence of a nonmaskable kind: it accrues and takes the place whatever it holds (R184). -/
def occurNonmaskable (k : FaultKind) (origin : Option ReqRef) (detail : BitVec 128) (s : State) : State :=
  post k origin detail true (accrue k s)

end Sys2Proof.Machine
end

