-- ==== Sys2Proof/Machine/Outcomes.lean ====
section
/-! DEFINITION. Outcomes of requests, the chain unit's record of them, retirement and CHAIN notices
(R6, R7, R16, R17). -/

namespace Sys2Proof.Machine

/-- The reader of a chain. -/
def readerOf (s : State) (k : Fin 4) : Reader := s.readers[k]

/-- All three outcomes are final. -/
def Bundle.allFinal (b : Bundle) : Bool := b.outcomes.toList.all OutcomeState.final

/-- The bundle with an address that a chain holds: its current bundle or an open-list entry. -/
def Reader.holds (r : Reader) (addr : Word) : Option Bundle :=
  match r.current with
  | some b => if b.addr = addr then some b else r.openList.find? fun b => b.addr == addr
  | none => r.openList.find? fun b => b.addr == addr

/-- The chain unit's record of a slot's outcome, when it holds the bundle. -/
def recorded (s : State) (o : ReqRef) : Option OutcomeState :=
  ((readerOf s o.chain).holds o.bundle).map fun b => b.outcomes[o.slot]

/-- The outcome of a slot in a bundle's record replaced. -/
def Bundle.withOutcome (b : Bundle) (slot : Fin 3) (st : OutcomeState) : Bundle :=
  { b with outcomes := b.outcomes.set slot.1 st slot.2 }

/-- The record of the outcome in the current bundle and in the open-bundle list of a reader (R6). -/
def Reader.record (r : Reader) (o : ReqRef) (st : OutcomeState) : Reader :=
  let upd (b : Bundle) := if b.addr = o.bundle then b.withOutcome o.slot st else b
  { r with current := r.current.map upd, openList := r.openList.map upd }

/-- The address of a bundle's state word (12.1). -/
def bundleStateAddr (bundle : Word) : Nat := bundle.toNat + 136

/-- Writes a bundle state code: TAKEN 1, LEFT 2, RETIRED 3 (1.3). -/
def writeBundleState (bundle : Word) (code : Nat) (s : State) : State :=
  s.withMem (s.mem.writeBytes (bundleStateAddr bundle) (leBytes 4 code))

/-- The retirement actions other than leaving the list: RETIRED in the bundle state, one more in the
retired count, and CHAIN k if the kept notify flag is set (R16). -/
def retire (k : Fin 4) (b : Bundle) (s : State) : State :=
  let r := readerOf s k
  let t := writeBundleState b.addr 3 (s.withReader k { r with retired := r.retired + 1 })
  if b.notify then raise (.chain k) t else t

/-- Open-list entries whose outcomes are all final are removed and retire; later entries keep their order
(R16). -/
def retireOpen (k : Fin 4) (s : State) : State :=
  let r := readerOf s k
  let t := s.withReader k { r with openList := r.openList.filter fun b => !b.allFinal }
  (r.openList.filter Bundle.allFinal).foldl (fun t b => retire k b t) t

/-- The address of a slot's outcome record (12.1). -/
def outcomeAddr (o : ReqRef) : Nat := o.bundle.toNat + 88 + 16 * o.slot.1

/-- The sixteen bytes of an outcome: state, reason and detail in one write (R7, 12.1). -/
def outcomeBytes (st : OutcomeState) (reason : Reason) (detail : BitVec 112) : List Byte :=
  st.code :: reason.code :: leBytes 14 detail.toNat

/-- The outcome's bytes in page memory. -/
def storeOutcome (o : ReqRef) (st : OutcomeState) (reason : Reason) (detail : BitVec 112)
    (s : State) : State :=
  s.withMem (s.mem.writeBytes (outcomeAddr o) (outcomeBytes st reason detail))

/-- Writes an outcome (R7). An outcome recorded as final stays as written. On a bundle that the chain unit
holds, its record follows, a REFUSED or FAILED outcome raises CHAIN k (R17), and an open-list entry whose
last outcome became final retires in the same event (R16). On a bundle that it has forgotten the write
lands in page memory alone (R20). -/
def writeOutcome (o : ReqRef) (st : OutcomeState) (reason : Reason) (detail : BitVec 112)
    (s : State) : State :=
  match recorded s o with
  | none => storeOutcome o st reason detail s
  | some old =>
    if old.final then s
    else
      let t := storeOutcome o st reason detail s
      let t := t.withReader o.chain ((readerOf t o.chain).record o st)
      let t := if st = .refused ∨ st = .failed then raise (.chain o.chain) t else t
      retireOpen o.chain t

/-- REFUSED with a reason and a zero detail. -/
def refuse (o : ReqRef) (reason : Reason) (s : State) : State := writeOutcome o .refused reason 0 s

/-- DONE with a detail. -/
def finish (o : ReqRef) (detail : BitVec 112) (s : State) : State := writeOutcome o .done .none detail s

end Sys2Proof.Machine
end

