-- ==== Sys2Proof/Machine/Budget.lean ====
section
/-! DEFINITION. The light's mix and limiting (6.3), the claims, the grants and the shortfall (9.5). -/

namespace Sys2Proof.Machine

/-! ## The mix (R101), limiting (R102) and the cut (R103) -/

/-- The target duties and the light claim from the level in use and the warmth (R101). -/
def Light.mix (l : Light) : Light :=
  let y := l.level * l.level / 1000
  let yw := y * l.warmth / 100
  let dw := yw * 4095 / 1000
  let dc := (y - yw) * 4095 / 1000
  { l with dw := dw, dc := dc, il := (dw * l.settings.ifw + dc * l.settings.ifc + 4094) / 4095 }

/-- A target duty brought within the grant (R102). -/
def limitDuty (l : Light) (d : Nat) : Nat :=
  if l.dark then 0
  else if l.il ≤ l.g then d
  else if l.g = 0 then 0
  else d * l.g / l.il

/-- The limited duties (R102). -/
def Light.limit (l : Light) : Light := { l with lw := limitDuty l l.dw, lc := limitDuty l l.dc }

/-- Each channel above its limited duty is cut to it at once (R103). -/
def Light.cut (l : Light) : Light := { l with pw := min l.pw l.lw, pc := min l.pc l.lc }

/-- Targets, claim and limited duties recomputed (R100, R102). -/
def Light.remix (l : Light) : Light := l.mix.limit

/-- A new light grant: a push that leaves G unchanged changes nothing (R103). -/
def Light.push (l : Light) (g : Nat) : Light :=
  if g = l.g then l else ({ l with g := g } : Light).limit.cut

/-- A limited duty is below its target and no dark hold is in force (R109). -/
def Light.limitingNow (l : Light) : Bool :=
  !l.dark && (decide (l.lw < l.dw) || decide (l.lc < l.dc))

/-- The detail of a posted GRANT_LIMITED (R109). -/
def grantLimitedDetail (l : Light) : BitVec 128 :=
  frameDetail [(2, l.dw), (2, l.dc), (2, l.lw), (2, l.lc), (2, l.il), (2, l.g)]

/-- The limiting episode follows the duties; its beginning is an occurrence of GRANT_LIMITED (R109;
log 11). -/
def noteLimiting (s : State) : State :=
  let now := s.light.limitingNow
  if now = s.light.limiting then s
  else
    let t := s.withLight { s.light with limiting := now }
    if now then occur .grantLimited (grantLimitedDetail t.light) t else t

/-- What follows the state at the end of every hand-over and of every event: the limiting episode, which also follows
an event's own effect and each internal step, and the conditions. -/
def note (s : State) : State := noteConditions (noteLimiting s)

/-! ## Claims and grants -/

/-- The sum of the lane claims. -/
def laneClaims (p : Panel) : Nat := (p.lanes.toList.map Lane.claim).sum

/-- The committed current: the radio claim and the lane claims (9.5). -/
def committed (s : State) : Nat := s.power.radioClaim + laneClaims s.panel

/-- R161: a claim is granted when the committed current plus the claim is no more than the budget
computed last. -/
def claimFits (s : State) (c : Nat) : Bool := decide (committed s + c ≤ s.power.budget)

/-- R162: G = max(0, B - committed current), pushed to the light engine, which cuts in the same event. -/
def pushGrant (s : State) : State := s.withLight (s.light.push (s.power.budget - committed s))

/-- The number of lanes that hold claims. -/
def claimingLanes (p : Panel) : Nat := (p.lanes.toList.filter fun l => !l.isFree).length

/-- The detail of a posted BUDGET_SHORT (R163). -/
def budgetShortDetail (s : State) : BitVec 128 :=
  frameDetail [(2, s.power.budget), (2, committed s), (2, s.power.radioClaim), (2, claimingLanes s.panel)]

/-- R163: the shortfall flag follows the committed current and the budget; its setting is an occurrence of
BUDGET_SHORT. -/
def noteShortfall (s : State) : State :=
  let now := decide (s.power.budget < committed s)
  let t := s.withPower { s.power with shortfall := now }
  if now && !s.power.shortfall then occur .budgetShort (budgetShortDetail s) t else t

/-- R163: a release re-evaluates the shortfall flag, and can only clear it. -/
def clearShortfall (s : State) : State :=
  s.withPower
    { s.power with shortfall := s.power.shortfall && decide (s.power.budget < committed s) }

/-- A claim was released: the shortfall is re-evaluated and the grant pushed (R161 to R163). -/
def released (s : State) : State := pushGrant (clearShortfall s)

end Sys2Proof.Machine
end

