-- ==== Sys2Proof/Machine/SleepEnd.lean ====
section
/-! DEFINITION. How sleep entry ends without SLEEP (10.3): abort and failure of the sleep image entry. -/

namespace Sys2Proof.Machine

/-- A dark hold ends: the limited duties are recomputed from the targets and G, and R109 is evaluated (R111), before
a reader goes on in the event. -/
def endDark (s : State) : State := noteLimiting (s.withLight ({ s.light with dark := false } : Light).limit)

/-- A dark hold begins: both limited duties are 0 (R111). -/
def beginDark (s : State) : State := s.withLight ({ s.light with dark := true } : Light).limit

/-- The request that a sleep reports to: the Sleep of an origin REQUEST (10.1). -/
def sleepRef (s : State) : Option ReqRef :=
  match s.power.sleep.record with
  | some ⟨.request r, _, _, _, _⟩ => some r
  | _ => none

/-- Writes the Sleep outcome, when there is one. -/
def writeSleep (st : OutcomeState) (reason : Reason) (detail : BitVec 112) (s : State) : State :=
  match sleepRef s with
  | some r => writeOutcome r st reason detail s
  | none => s

/-- The entry reports to no request from now on (R174). -/
def orphanEntry (e : Entry) : Entry := if e.origin.isSleep then { e with origin := .sleep none } else e

/-- Likewise for a lane that carries a sleep image. -/
def orphanLane (l : Lane) : Lane :=
  match l.origin with
  | some (.sleep _) => { l with origin := some (.sleep none) }
  | _ => l

/-- Sleep entry is over: the power state becomes the return state, the hold timer stops, and the sleep
record and step are gone (R174, R175; log 16). The return state stays as it is (log 37). -/
def leaveSleepEntry (s : State) : State :=
  s.withPower
    { s.power with
      state := s.power.returnState
      sleep :=
        { s.power.sleep with
          record := none
          step := none
          hold := .stopped
          image := .absent } }

/-- Causes of an abort (R174). -/
inductive AbortCause where
  | press | cancel | coverOpen
deriving DecidableEq, Repr

/-- Abort cause codes (R174). -/
def AbortCause.code : AbortCause → Nat
  | .press => 1 | .cancel => 2 | .coverOpen => 3

/-- R174: sleep entry is aborted. An image entry in the queue or in a lane goes on as one that reports to
no request; in DARKENING the dark hold ends. -/
def abortSleep (c : AbortCause) (s : State) : State :=
  let t := writeSleep .failed .aborted (outcomeDetail [(1, stepCode s.power.sleep.step), (1, c.code)]) s
  let t := t.withPanel
    { t.panel with
      queue := t.panel.queue.map orphanEntry
      lanes := t.panel.lanes.map orphanLane }
  let t := if s.power.sleep.step = some .darkening then endDark t else t
  leaveSleepEntry t

/-- The sleep image entry is under way: queued or in a lane. -/
def imageUnderWay (s : State) : Bool :=
  match s.power.sleep.image with
  | .queued => true
  | .inLane _ => true
  | .absent => false
  | .over => false

/-- R175: the sleep image entry failed, which ends sleep entry with the entry's reason. -/
def imageFailed (reason : Reason) (s : State) : State :=
  if s.power.state = .sleepPending ∧ imageUnderWay s then
    leaveSleepEntry (writeSleep .failed reason (outcomeDetail [(1, 2), (1, 4)]) s)
  else s

end Sys2Proof.Machine
end

