-- ==== Sys2Proof/Machine/Waveform.lean ====
section
/-! DEFINITION. The waveform set in the waveform store (3.5, 12.6), the temperature bands (3.6) and the
temperature range refusal (R51). -/

namespace Sys2Proof.Machine

/-- Byte `i` of the waveform store. -/
def waveByte (m : Memory) (i : Nat) : Byte := m.read (Config.waveBase + i)

/-- The set identifier. -/
def waveIdent (m : Memory) : Nat := m.field Config.waveBase 4

/-- The CRC in the header. -/
def waveCrc (m : Memory) : Nat := m.field (Config.waveBase + 4) 4

/-- The total length in the header. -/
def waveTotal (m : Memory) : Nat := m.field (Config.waveBase + 8) 4

/-- The band count n. -/
def waveBands (m : Memory) : Nat := (waveByte m 12).toNat

/-- Band bound `i`, in degrees. -/
def waveBound (m : Memory) (i : Nat) : Int := signedByte (waveByte m (13 + i))

/-- The frame count of a mode in a band. -/
def waveFrames (m : Memory) (mode band : Nat) : Nat := (waveByte m (30 + 16 * mode + band)).toNat

/-- The burst current of a mode, in mA. -/
def waveBurst (m : Memory) (mode : Nat) : Nat := m.field (Config.waveBase + 94 + 2 * mode) 2

/-- The frame counts of a mode over bands `0` to `n - 1`, added. -/
def waveFrameSum (m : Memory) (mode n : Nat) : Nat := ((List.range n).map (waveFrames m mode)).sum

/-- The frame counts of all modes over the bands of the set, added (R47, check 7). -/
def waveTables (m : Memory) : Nat := ((List.range 4).map fun k => waveFrameSum m k (waveBands m)).sum

/-- R191: the number of tables before the one of frame `f` of a mode in a band. -/
def tableIndex (m : Memory) (mode band f : Nat) : Nat :=
  ((List.range mode).map fun k => waveFrameSum m k (waveBands m)).sum + waveFrameSum m mode band + f

/-- R191: the two-bit drive code for a present and a target level. -/
def driveCode (m : Memory) (mode band f p t : Nat) : Nat :=
  (waveByte m (128 + 64 * tableIndex m mode band f + (4 * p + t / 4))).toNat / 4 ^ (t % 4) % 4

/-- R47: the first check that fails on the copied set of the requested length, 0 when all pass. -/
def waveCheck (m : Memory) (len : Nat) : Nat :=
  let n := waveBands m
  if waveTotal m ≠ len then 1
  else if (crc32 (m.readBytes (Config.waveBase + 8) (len - 8))).toNat ≠ waveCrc m then 2
  else if !between 1 n 16 then 3
  else if !((List.range (n + 1)).all fun i => decide (-40 ≤ waveBound m i) && decide (waveBound m i ≤ 85))
      || !((List.range n).all fun i => decide (waveBound m i < waveBound m (i + 1))) then 4
  else if !((List.range 4).all fun k => (List.range n).all fun b => between 1 (waveFrames m k b) 255) then 5
  else if !((List.range 4).all fun k => between 0 (waveBurst m k) 500) then 6
  else if waveTotal m ≠ 128 + 64 * waveTables m then 7
  else 0

/-! ## Bands (R50) -/

/-- The band that covers a temperature, searched from band `b` with `k` bands left. -/
def bandSearch (m : Memory) (t : Int) : Nat → Nat → Nat
  | 0, b => b
  | k + 1, b => if t < waveBound m (b + 1) then b else bandSearch m t k (b + 1)

/-- The band containing a temperature: band 0 below bound 0, band n - 1 at or above bound n (R50). -/
def bandContaining (m : Memory) (t : Int) : Nat :=
  if t < waveBound m 0 then 0 else bandSearch m t (waveBands m - 1) 0

/-- The band rule with its hysteresis of one degree (R50). -/
def bandRule (m : Memory) (c : Nat) (t : Int) : Nat :=
  if waveBound m (c + 1) + 1 ≤ t then bandContaining m t
  else if t < waveBound m c - 1 then bandContaining m t
  else c

/-- The range state of a temperature (R51). -/
def rangeOf (m : Memory) (t : Int) : RangeState :=
  if t < waveBound m 0 - 1 then .outLow
  else if waveBound m (waveBands m) + 1 ≤ t then .outHigh
  else .inRange

/-- R51: the temperature range refusal is in force while the set is VALID, the range state is not IN_RANGE
and TEMP_RANGE is enabled. -/
def tempRefusal (p : Panel) : Bool :=
  p.setState.isValid && p.range != .inRange && p.settings.mask.tempRange

/-- The band the range state asks for: the edge band while out of range (R51). -/
def edgeBand (m : Memory) (r : RangeState) (b : Nat) : Nat :=
  match r with
  | .inRange => b
  | .outLow => 0
  | .outHigh => waveBands m - 1

/-- The bound that a range state has crossed. -/
def crossedBound (m : Memory) (r : RangeState) : Int :=
  match r with
  | .outHigh => waveBound m (waveBands m)
  | _ => waveBound m 0

/-- An occurrence of TEMP_RANGE with the temperature and the bound crossed (R51). DEDUCED (log 51): R190 gives a
temperature two bytes and names no bound; the bound crossed is taken as a temperature, two signed bytes. -/
def occurTempRange (s : State) : State :=
  occur .tempRange
    (frameDetail [signedItem 2 s.panel.lastTemp, signedItem 2 (crossedBound s.mem s.panel.range)]) s

/-- R51: the range state is examined against the last panel temperature; a change to or between the out
of range states is an occurrence. -/
def examineRange (s : State) : State :=
  let r := rangeOf s.mem s.panel.lastTemp
  let t := s.withPanel
    { s.panel with range := r, band := s.panel.band.map (edgeBand s.mem r) }
  if r ≠ s.panel.range ∧ r ≠ .inRange then occurTempRange t else t

/-- R50: a temperature arrival. The start scan it may ask for runs later in the same measurement event
(R61, R153). -/
def temperatureArrival (t : Int) (s : State) : State :=
  let s := s.withPanel { s.panel with lastTemp := t }
  if s.panel.setState.isValid then
    examineRange
      (s.withPanel { s.panel with band := s.panel.band.map fun c => bandRule s.mem c t })
  else s

end Sys2Proof.Machine
end

