-- ==== Sys2Proof/Machine/Queue.lean ====
section
/-! DEFINITION. Rectangles, the uncertain list, the pending queue and the start scan (3.1, 3.4, 4.2, 4.3). -/

namespace Sys2Proof.Machine

/-! ## Rectangles (R34) -/

/-- At least one pixel is covered by both. -/
def Rect.meets (a b : Rect) : Bool :=
  decide (a.x < b.x + b.w) && decide (b.x < a.x + a.w) && decide (a.y < b.y + b.h)
    && decide (b.y < a.y + a.h) && decide (0 < a.w) && decide (0 < a.h) && decide (0 < b.w) && decide (0 < b.h)

/-- `a` lies wholly within `b`. -/
def Rect.within (a b : Rect) : Bool :=
  decide (b.x ≤ a.x) && decide (a.x + a.w ≤ b.x + b.w) && decide (b.y ≤ a.y)
    && decide (a.y + a.h ≤ b.y + b.h)

/-- The full-panel rectangle under the geometry in force. -/
def fullPanel (p : PanelSettings) : Rect := ⟨0, 0, p.width, p.height⟩

/-- A rectangle as a detail item of eight bytes (R190). -/
def rectItems (r : Rect) : List (Nat × Nat) := [(2, r.x), (2, r.y), (2, r.w), (2, r.h)]

/-! ## The uncertain list (R42, R43) -/

/-- R42: a rectangle is offered to the uncertain list; the 17th empties it and sets the flag. -/
def offerUncertain (p : Panel) (r : Rect) : Panel :=
  if p.wholePanel then p
  else if p.uncertain.length < Config.uncertainRoom then { p with uncertain := p.uncertain ++ [r] }
  else { p with uncertain := [], wholePanel := true }

/-- R43: the close of a SETTLE lane. -/
def settleClose (p : Panel) (r : Rect) : Panel :=
  if r = fullPanel p.settings then { p with uncertain := [], wholePanel := false }
  else { p with uncertain := p.uncertain.filter fun u => !u.within r }

/-- The rectangle meets an entry of the list, or finds the whole-panel flag set (R43, R63). -/
def isUncertain (p : Panel) (r : Rect) : Bool := p.wholePanel || p.uncertain.any fun u => u.meets r

/-! ## Entries (R58, R59, R72, R76) -/

/-- The lanes in increasing number. -/
def laneNumbers : List (Fin 16) := [0, 1, 2, 3, 4, 5, 6, 7, 8, 9, 10, 11, 12, 13, 14, 15]

/-- A lane of the panel engine. -/
def laneOf (s : State) (n : Fin 16) : Lane := s.panel.lanes[n]

/-- The pending queue replaced. -/
def State.withQueue (s : State) (q : List Entry) : State := s.withPanel { s.panel with queue := q }

/-- The flags byte of the update detail: promoted, clipped, uncertainty added at halt (R72), from bit 0 in that
order (log 18). -/
def updateFlags (promoted clipped uncertain : Bool) : Nat := bitsNat [promoted, clipped, uncertain]

/-- The update detail (R72). -/
def updateDetail (lane mode band frames marked w h flags : Nat) : BitVec 112 :=
  outcomeDetail [(1, lane), (1, mode), (1, band), (1, frames), (4, marked), (2, w), (2, h), (1, flags)]

/-- The detail of an entry that failed in the queue (R72). -/
def entryFailDetail (e : Entry) : BitVec 112 :=
  updateDetail 255 e.mode.code 0 0 0 e.rect.w e.rect.h (updateFlags e.promoted e.clipped false)

/-- R59: the failure of an entry that has left the queue, with a reason. A sleep image entry's failure
goes to the power engine. -/
def failEntry (e : Entry) (reason : Reason) (s : State) : State :=
  match e.origin with
  | .request r => writeOutcome r .failed reason (entryFailDetail e) s
  | .ring _ (some r) => writeOutcome r .failed reason (entryFailDetail e) s
  | .ring _ none => s
  | .sleep _ => imageFailed reason s

/-- R76: an occurrence for an entry whose flag is enabled only accrues when the entry reports to a request,
and is offered to the posted place when it reports to none. -/
def occurForEntry (e : Entry) (k : FaultKind) (detail : BitVec 128) (s : State) : State :=
  match e.origin.report with
  | some _ => accrue k s
  | none => occur k detail s

/-- The entry at a place of the queue removed. -/
def dropEntry (i : Nat) (s : State) : State := s.withQueue (s.panel.queue.eraseIdx i)

/-- The entry at a place of the queue replaced. -/
def putEntry (i : Nat) (e : Entry) (s : State) : State := s.withQueue (s.panel.queue.set i e)

/-- An entry held by a condition other than its claim: its budget clock stops (R62, R65). -/
def Entry.heldBy (e : Entry) (h : EntryHold) : Entry := { e with hold := h, clock := none }

/-- An entry held by its claim: the clock starts if it was stopped (R65). -/
def Entry.heldByBudget (e : Entry) : Entry :=
  { e with hold := .budget, clock := some (e.clock.getD 0) }

/-! ## The start scan (R61 to R64) -/

/-- R62 (a): the set is VALID and no temperature range refusal is in force. -/
def scanOpen (p : Panel) : Bool := p.setState.isValid && !tempRefusal p

/-- R62 (b): the rectangle meets a lane that is not FREE. -/
def meetsLane (p : Panel) (r : Rect) : Bool :=
  p.lanes.toList.any fun l => !l.isFree && r.meets l.rect

/-- R62 (c): the rectangle meets an older entry of the queue. -/
def meetsOlder (p : Panel) (i : Nat) (r : Rect) : Bool :=
  (p.queue.take i).any fun e => r.meets e.rect

/-- The lowest-numbered FREE lane. -/
def freeLane (p : Panel) : Option (Fin 16) := laneNumbers.find? fun n => p.lanes[n].isFree

/-- R64: a lane filled from an entry. -/
def laneFrom (s : State) (e : Entry) : Lane where
  state := .loading
  rect := e.rect
  mode := e.mode
  band := s.panel.band.getD 0
  frameIndex := 0
  frameCount := waveFrames s.mem e.mode.code (s.panel.band.getD 0)
  marked := 0
  claim := waveBurst s.mem e.mode.code
  origin := some e.origin
  promoted := e.promoted
  clipped := e.clipped
  image := e.image
  stride := e.stride
  rows := 0

/-- The sleep image entry has taken a lane (10.1). -/
def noteImageLane (e : Entry) (n : Fin 16) (s : State) : State :=
  if e.origin.isSleep ∧ s.power.sleep.image = .queued then
    s.withSleep { s.power.sleep with image := .inLane n, imageLane := some n, imageMode := e.mode }
  else s

/-- R64: an entry whose claim is granted leaves the queue, fills the lane, and the light grant is pushed
with its claim committed. -/
def startEntry (i : Nat) (e : Entry) (n : Fin 16) (s : State) : State :=
  pushGrant (noteImageLane e n ((dropEntry i s).withLane n (laneFrom s e)))

/-- The frame detail of UNCERTAIN: the entry's rectangle and origin kind (R76). -/
def uncertainDetail (e : Entry) : BitVec 128 := frameDetail (rectItems e.rect ++ [(1, e.origin.code)])

/-- R64: the claim of an entry that passed the uncertainty check. -/
def claimEntry (i : Nat) (e : Entry) (n : Fin 16) (s : State) : State × Bool :=
  if claimFits s (waveBurst s.mem e.mode.code) then (startEntry i e n s, true)
  else (putEntry i e.heldByBudget s, false)

/-- R62 to R64 for the entry at place `i`: the state after it, and whether the entry left the queue. -/
def examineEntry (i : Nat) (e : Entry) (s : State) : State × Bool :=
  if meetsLane s.panel e.rect then (putEntry i (e.heldBy .lane) s, false)
  else if meetsOlder s.panel i e.rect then (putEntry i (e.heldBy .older) s, false)
  else
    match freeLane s.panel with
    | none => (putEntry i (e.heldBy .noLane) s, false)
    | some n =>
      if e.mode ≠ .settle ∧ isUncertain s.panel e.rect then
        if s.panel.settings.mask.uncertain then
          (failEntry e .uncertain (occurForEntry e .uncertain (uncertainDetail e) (dropEntry i s)), true)
        else
          let e' := { e with mode := .settle, promoted := true }
          claimEntry i e' n (putEntry i e' (accrue .uncertain s))
      else claimEntry i e n s

/-- The scan from place `i` on, with at most `k` entries left to examine. -/
def scanFrom : Nat → Nat → State → State
  | 0, _, s => s
  | k + 1, i, s =>
    match s.panel.queue[i]? with
    | none => s
    | some e =>
      let (t, left) := examineEntry i e s
      scanFrom k (if left then i else i + 1) t

/-- R62, with (a) failed: every entry's hold becomes SET, and every running budget clock is stopped. -/
def holdForSet (s : State) : State := s.withQueue (s.panel.queue.map (Entry.heldBy · .set))

/-- The start scan (R62), which is then the scan of the present event (R61). -/
def scan (s : State) : State :=
  (if scanOpen s.panel then scanFrom s.panel.queue.length 0 s else holdForSet s).withScanned true

/-- R58: the scan of the event takes a new entry at the newest end, and examines it before it ends. -/
def scanNewest (s : State) : State :=
  if scanOpen s.panel then scanFrom 1 (s.panel.queue.length - 1) s else holdForSet s

/-- An arrival at the newest end of the queue is a scan event: the scan of the event runs, or, when it has run
already, takes the new entry (R58, R61; log 46). -/
def arrival (s : State) : State := if s.scanned then scanNewest s else scan s

/-- An entry joins the newest end of the queue (R57, R61). -/
def addEntry (e : Entry) (s : State) : State := arrival (s.withQueue (s.panel.queue ++ [e]))

/-- The rail's claim was released, which is a scan event (R61, R119). A rail-off is an event of its own, so its scan
examines every entry (log 46). -/
def releasedScan (s : State) : State := scan (released s)

/-! ## Halt (R73) -/

/-- The halt offers the lane's rectangle to the uncertain list (R42, R73). -/
def haltsUncertain (l : Lane) : Bool := l.state == .driving || l.state == .closing

/-- R72: the uncertainty flag of a halted lane: its rectangle was added to the uncertain list of `p`, or offered
while the whole-panel flag was set. The rectangle that would be the 17th is neither (R42). -/
def uncertaintyAdded (p : Panel) (l : Lane) : Bool :=
  haltsUncertain l && (p.wholePanel || decide (p.uncertain.length < Config.uncertainRoom))

/-- Frames driven before the halt (R72): the frame whose period is under way counts (log 47). -/
def framesDriven (l : Lane) : Nat := l.frameIndex

/-- The detail of an update that a halt stopped in a lane, with the panel before the lane's rectangle was
offered (R72). A lane halted in LOADING reports the pixels marked so far (log 47). -/
def haltDetail (p : Panel) (n : Fin 16) (l : Lane) : BitVec 112 :=
  updateDetail n.1 l.mode.code l.band (framesDriven l) l.marked l.rect.w l.rect.h
    (updateFlags l.promoted l.clipped (uncertaintyAdded p l))

/-- The FAILED HALTED outcome of a lane's update, for an origin that reports to an update request. The
power engine settles a sleep image's outcome itself (R59, R164, R167). -/
def haltLaneOutcome (detail : BitVec 112) (l : Lane) (s : State) : State :=
  match l.origin with
  | some (.request r) => writeOutcome r .failed .halted detail s
  | some (.ring _ (some r)) => writeOutcome r .failed .halted detail s
  | _ => s

/-- Steps 1 to 3 of R73 for one lane. -/
def haltLane (s : State) (n : Fin 16) : State :=
  let l := laneOf s n
  if l.isFree then s
  else
    haltLaneOutcome (haltDetail s.panel n l) l
      (if haltsUncertain l then s.withPanel (offerUncertain s.panel l.rect) else s)

/-- Step 4 of R73 for one entry: a sleep image entry leaves without an outcome of its own. -/
def haltEntry (s : State) (e : Entry) : State :=
  match e.origin with
  | .sleep _ => s
  | _ => failEntry e .halted s

/-- An entry of origin RING made from a slot (R85). -/
def ringEntry (s : State) (i : Fin 8) (rep : Option ReqRef) : Entry where
  origin := .ring i rep
  rect := fullPanel s.panel.settings
  image := s.panel.ring.slots[i].image
  stride := s.panel.settings.width / 2
  mode := s.panel.ring.slots[i].mode
  promoted := false
  clipped := false
  hold := .none
  clock := none
  counted := false

/-- A held turn that ends without its entry: its reporting request fails with the reason and lane 255
(R90; log 21). -/
def failHeldTurn (reason : Reason) (s : State) : State :=
  match s.panel.ring.held with
  | some (.queueFull _ _ _ rep) =>
    let t := s.withRing { s.panel.ring with held := none }
    match rep with
    | some r =>
      writeOutcome r .failed reason (entryFailDetail (ringEntry s s.panel.ring.current rep)) t
    | none => t
  | _ => s

/-- A waveform load in progress is abandoned by a halt (R46). -/
def abandonLoad (s : State) : State :=
  match s.panel.setState with
  | .loading job =>
    writeOutcome job.rep .failed .halted 0 (s.withPanel { s.panel with setState := .absent, band := none })
  | _ => s

/-- R73: a halt stops all panel drawing at once and discards a QUEUE_FULL held turn (R90). The lane claims
are released in one release. -/
def halt (s : State) : State :=
  let t := laneNumbers.foldl haltLane s
  let t := t.panel.queue.foldl haltEntry (t.withQueue [])
  let t := t.withPanel { t.panel with lanes := Vector.replicate 16 Lane.free, frameClock := none }
  let t := failHeldTurn .halted t
  released (abandonLoad t)

end Sys2Proof.Machine
end

