-- ==== Sys2Proof/Machine/Lanes.lean ====
section
/-! DEFINITION. Lane loading, panel frames and lane close (4.4, R38, R39, R66 to R72). -/

namespace Sys2Proof.Machine

/-! ## Pixels (R34, R38 to R41) -/

/-- The address of a pixel's byte in the present plane. -/
def presentAddr (x y : Nat) : Nat := Config.presentBase + Config.planePitch * y + x

/-- The address of a pixel's byte in the target plane. -/
def targetAddr (x y : Nat) : Nat := Config.targetBase + Config.planePitch * y + x

/-- The present level of a pixel: the low four bits of its present-plane byte (R39). -/
def presentLevel (m : Memory) (x y : Nat) : Nat := (m.read (presentAddr x y)).toNat % 16

/-- R39: the target level of a source level in a mode. -/
def targetLevel : Mode → Nat → Nat
  | .settle, s => s
  | .tone, s => s
  | .crisp, s => if s ≤ 7 then 0 else 15
  | .swift, s => if s ≤ 7 then 0 else 15

/-- R39: whether a pixel is marked for driving. -/
def pixelMarked (mode : Mode) (present target : Nat) : Bool :=
  match mode with
  | .settle => true
  | .tone | .crisp | .swift => target != present

/-- R41, R66: one pixel's target-plane byte is written and the pixel counted when it is marked. -/
def loadPixel (mode : Mode) (x y source : Nat) (acc : Memory × Nat) : Memory × Nat :=
  let t := targetLevel mode source
  let marked := pixelMarked mode (presentLevel acc.1 x y) t
  (acc.1.write (targetAddr x y) (BitVec.ofNat 8 (t + if marked then 16 else 0)),
    acc.2 + if marked then 1 else 0)

/-- R38: the two pixels of source byte `i` of row `r`, low four bits first. -/
def loadPair (l : Lane) (r : Nat) (acc : Memory × Nat) (i : Nat) : Memory × Nat :=
  let b := (acc.1.read (l.image.toNat + r * l.stride + i)).toNat
  let x := l.rect.x + 2 * i
  let y := l.rect.y + r
  loadPixel l.mode (x + 1) y (b / 16) (loadPixel l.mode x y (b % 16) acc)

/-- One row of the source image (R66). -/
def loadRow (l : Lane) (acc : Memory × Nat) (r : Nat) : Memory × Nat :=
  (List.range (l.rect.w / 2)).foldl (loadPair l r) acc

/-- The next `k` rows of a lane's loading, as far as rows are left (R66); no host write falls between two bytes
of one row (log 39). -/
def loadRows (n : Fin 16) (k : Nat) (s : State) : State :=
  let l := laneOf s n
  let k := min k (l.rect.h - l.rows)
  let acc := (List.range k).foldl (fun acc j => loadRow l acc (l.rows + j)) (s.mem, l.marked)
  (s.withMem acc.1).withLane n { l with marked := acc.2, rows := l.rows + k }

/-! ## Outcomes of lanes (R59, R72) -/

/-- The update detail of a lane, with the frames driven (R72). -/
def laneDetail (n : Fin 16) (l : Lane) (frames : Nat) : BitVec 112 :=
  updateDetail n.1 l.mode.code l.band frames l.marked l.rect.w l.rect.h
    (updateFlags l.promoted l.clipped false)

/-- The sleep image's lane has ended LOADING: the Sleep outcome is written STARTED with the lane number
(R172). -/
def imageStarted (n : Fin 16) (s : State) : State :=
  if s.power.sleep.image = .inLane n then
    let t := writeSleep .started .none (outcomeDetail [(1, n.1)]) s
    t.withSleep { t.power.sleep with started := true }
  else s

/-- The sleep image's lane has become FREE with DONE: IMAGING has nothing left to wait for (R172). -/
def imageDone (n : Fin 16) (s : State) : State :=
  if s.power.sleep.image = .inLane n then
    let t := if s.power.sleep.started then s else imageStarted n s
    t.withSleep { t.power.sleep with image := .over, imageFlag := .drawn }
  else s

/-- R59: STARTED of a lane's update. -/
def laneStarted (n : Fin 16) (l : Lane) (s : State) : State :=
  match l.origin with
  | some (.request r) => writeOutcome r .started .none (laneDetail n l 0) s
  | some (.ring _ (some r)) => writeOutcome r .started .none (laneDetail n l 0) s
  | some (.sleep _) => imageStarted n s
  | _ => s

/-- R59: DONE of a lane's update. -/
def laneDone (n : Fin 16) (l : Lane) (frames : Nat) (s : State) : State :=
  match l.origin with
  | some (.request r) => writeOutcome r .done .none (laneDetail n l frames) s
  | some (.ring _ (some r)) => writeOutcome r .done .none (laneDetail n l frames) s
  | some (.sleep _) => imageDone n s
  | _ => s

/-- The panel frame clock starts if it is stopped (R68). -/
def startFrameClock (s : State) : State :=
  match s.panel.frameClock with
  | none => s.withPanel { s.panel with frameClock := some s.panel.settings.framePeriod }
  | some _ => s

/-- A lane becomes FREE with DONE: its claim is released, its outcome written, and the scan runs (R67,
R71). -/
def freeLaneDone (n : Fin 16) (l : Lane) (frames : Nat) (s : State) : State :=
  scan (laneDone n l frames (released (s.withLane n Lane.free)))

/-- R67: the lane ends LOADING. -/
def completeLoading (n : Fin 16) (s : State) : State :=
  let t := loadRows n ((laneOf s n).rect.h - (laneOf s n).rows) s
  let l := laneOf t n
  if l.marked = 0 then freeLaneDone n l 0 t
  else startFrameClock (laneStarted n l (t.withLane n { l with state := .driving, frameIndex := 0 }))

/-- R69: what a panel frame event does to a lane. -/
def Lane.frame (l : Lane) : Lane :=
  if l.state = .driving then
    if l.frameIndex < l.frameCount then { l with frameIndex := l.frameIndex + 1 }
    else { l with state := .closing }
  else l

/-- R68, R69: a panel frame event; the clock stops when no lane is left in DRIVING. -/
def frameEvent (s : State) : State :=
  let lanes := s.panel.lanes.map Lane.frame
  s.withPanel
    { s.panel with
      lanes := lanes
      frameClock :=
        if lanes.toList.any fun l => l.state == .driving then some s.panel.settings.framePeriod
        else none }

/-- R71, step 1, for one pixel: a marked pixel's target level goes into the present plane (R40). -/
def closePixel (m : Memory) (x y : Nat) : Memory :=
  let b := (m.read (targetAddr x y)).toNat
  if b / 16 % 2 = 1 then m.write (presentAddr x y) (BitVec.ofNat 8 (b % 16)) else m

/-- R71, step 1, for a rectangle. -/
def closeRect (m : Memory) (r : Rect) : Memory :=
  (List.range r.h).foldl
    (fun m j => (List.range r.w).foldl (fun m i => closePixel m (r.x + i) (r.y + j)) m) m

/-- R71: the close completion of a lane. -/
def completeClose (n : Fin 16) (s : State) : State :=
  let l := laneOf s n
  let t := s.withMem (closeRect s.mem l.rect)
  let t := if l.mode = .settle then t.withPanel (settleClose t.panel l.rect) else t
  freeLaneDone n l l.frameCount t

/-- R39, R69, R191: the drive code on the panel driver lines for a pixel: that of the frame its DRIVING
lane drives in the present frame period, and 0 for a pixel that no lane drives. -/
def pixelDrive (s : State) (x y : Nat) : Nat :=
  let b := (s.mem.read (targetAddr x y)).toNat
  match s.panel.lanes.toList.find? fun l =>
    l.state == .driving && decide (0 < l.frameIndex) && Rect.meets ⟨x, y, 1, 1⟩ l.rect with
  | some l =>
    if b / 16 % 2 = 1 then
      driveCode s.mem l.mode.code l.band (l.frameIndex - 1) (presentLevel s.mem x y) (b % 16)
    else 0
  | none => 0

end Sys2Proof.Machine
end

