-- ==== Sys2Proof/Machine/Ring.lean ====
section
/-! DEFINITION. The turn ring, button turns and held turns (chapter 5). The requests are given from step 4
of R27 on; steps 1 to 3 stand in Requests.lean. -/

namespace Sys2Proof.Machine

/-- A ring slot. -/
def ringSlot (s : State) (i : Fin 8) : RingSlot := s.panel.ring.slots[i]

/-- A slot's tag replaced. -/
def Ring.withTag (r : Ring) (i : Fin 8) (t : Tag) : Ring :=
  { r with slots := r.slots.set i.1 { r.slots[i] with tag := t } i.2 }

/-- The bytes of a full-panel image under the geometry in force (R81). -/
def imageBytes (p : PanelSettings) : Nat := p.height * (p.width / 2)

/-- The slot a held turn concerns: the target it waits for, or the slot it has reached (R93). -/
def heldSlot (r : Ring) : HeldTurn → Fin 8
  | .slotEmpty d => r.target d
  | .queueFull _ _ _ _ => r.current

/-- The results of a Turn that follows no entry (R93). -/
inductive TurnResult where
  | held | ignored | cleared | withdrawn | superseded
deriving DecidableEq, Repr

/-- Result codes (R93). -/
def TurnResult.code : TurnResult → Nat
  | .held => 1 | .ignored => 2 | .cleared => 3 | .withdrawn => 4 | .superseded => 5

/-- The ring result detail, from the ring as it stands (R93). -/
def ringResult (s : State) (res : TurnResult) (slot : Fin 8) : BitVec 112 :=
  outcomeDetail [(1, 255), (1, res.code), (1, s.panel.ring.current.1), (1, slot.1),
    (4, (ringSlot s s.panel.ring.current).label.toNat), (1, s.panel.ring.ahead),
    (1, heldCode s.panel.ring.held)]

/-- A turn's reporting request, when there is one, is DONE with a ring result (R93). -/
def finishTurn (rep : Option ReqRef) (res : TurnResult) (slot : Fin 8) (s : State) : State :=
  match rep with
  | some o => finish o (ringResult s res slot) s
  | none => s

/-- The reporting request of a QUEUE_FULL held turn is CANCELLED, WITHDRAWN (R83, R87). -/
def withdrawTurn (rep : Option ReqRef) (slot : Fin 8) (s : State) : State :=
  match rep with
  | some o => writeOutcome o .cancelled .none (ringResult s .withdrawn slot) s
  | none => s

/-- R87: the held turn is cleared by a turn in the opposite direction; one held QUEUE_FULL is taken back. -/
def clearOpposite (h : HeldTurn) (s : State) : State :=
  match h with
  | .slotEmpty _ => s.withRing { s.panel.ring with held := none }
  | .queueFull _ f former rep =>
    let reached := s.panel.ring.current
    withdrawTurn rep reached
      (s.withRing { s.panel.ring.withTag reached former with current := f, held := none })

/-- The reporting request of a turn whose entry is queued reads QUEUED (R93). -/
def queueTurn (rep : Option ReqRef) (s : State) : State :=
  match rep with
  | some o => writeOutcome o .queued .none 0 s
  | none => s

/-- The slot of a ring entry. -/
def entrySlot (e : Entry) : Fin 8 :=
  match e.origin with
  | .ring i _ => i
  | _ => 0

/-- R89, step 2: the newest entry rewritten in place for the new current slot. -/
def rewriteEntry (s : State) (e : Entry) (rep : Option ReqRef) : Entry :=
  let i := s.panel.ring.current
  { e with
    origin := .ring i rep
    image := (ringSlot s i).image
    mode := (ringSlot s i).mode
    promoted := false
    counted := false
    clock := none
    hold := .none }

/-- R89, step 2: coalescing into the newest entry, which is of origin RING. -/
def coalesce (e : Entry) (rep : Option ReqRef) (s : State) : State :=
  let t := s.withQueue (s.panel.queue.dropLast ++ [rewriteEntry s e rep])
  let t := finishTurn e.origin.report .superseded (entrySlot e) t
  arrival (queueTurn rep t)

/-- R89, step 4: the turn's entry is held because the queue is full. -/
def holdTurn (d : Dir) (f : Fin 8) (former : Tag) (rep : Option ReqRef) (s : State) : State :=
  queueTurn rep (s.withRing { s.panel.ring with held := some (.queueFull d f former rep) })

/-- R89: the entry of a turn that moved the ring from slot `f` onto a slot whose tag was `former`. -/
def placeTurn (d : Dir) (f : Fin 8) (former : Tag) (rep : Option ReqRef) (s : State) : State :=
  if s.panel.setState.isAbsent then s
  else
    match s.panel.queue.getLast? with
    | some e =>
      if e.origin.isRing then coalesce e rep s
      else if s.panel.queue.length < Config.queueRoom then
        addEntry (ringEntry s s.panel.ring.current rep) (queueTurn rep s)
      else holdTurn d f former rep s
    | none => addEntry (ringEntry s s.panel.ring.current rep) (queueTurn rep s)

/-- R92: RING after a turn that moved the current index. -/
def raiseRingLow (s : State) : State := if ringLow s.panel then raise .ring s else s

/-- R88: a button turn in direction `d` that finds no held turn. -/
def freshTurn (d : Dir) (rep : Option ReqRef) (s : State) : State :=
  let r := s.panel.ring
  let t := r.target d
  if r.slots[t].tag = .empty then
    finishTurn rep .held t
      (raise .ring (s.withRing { r with dir := d, held := some (.slotEmpty d) }))
  else
    raiseRingLow
      (placeTurn d r.current r.slots[t].tag rep
        (s.withRing { r.withTag t .shown with current := t, dir := d }))

/-- R87, R88: a button turn in direction `d`, with the Turn request that asked for it when there is one. -/
def buttonTurn (d : Dir) (rep : Option ReqRef) (s : State) : State :=
  match s.panel.ring.held with
  | some h =>
    if h.dir = d then finishTurn rep .ignored (heldSlot s.panel.ring h) s
    else finishTurn rep .cleared (heldSlot s.panel.ring h) (clearOpposite h s)
  | none => freshTurn d rep s

/-- A held turn waits for a place in the queue (R90). -/
def turnWaits (s : State) : Bool :=
  match s.panel.ring.held with
  | some (.queueFull _ _ _ _) => true
  | _ => false

/-- R90: a freed place is given to a QUEUE_FULL held turn. -/
def placeHeldTurn (s : State) : State :=
  match s.panel.ring.held with
  | some (.queueFull _ _ _ rep) =>
    if s.panel.setState.isAbsent then failHeldTurn .noWaveform s
    else
      addEntry (ringEntry s s.panel.ring.current rep)
        (s.withRing { s.panel.ring with held := none })
  | _ => s

/-- A held SLOT_EMPTY turn whose target is the given slot (R91). -/
def heldOn (r : Ring) (i : Fin 8) : Option Dir :=
  match r.held with
  | some (.slotEmpty d) => if r.target d = i then some d else none
  | _ => none

/-- The slot index of an operand byte, when it is 0 to 7. -/
def slotOperand (b : Byte) : Option (Fin 8) :=
  if h : b.toNat < 8 then some ⟨b.toNat, h⟩ else none

/-- R81: Stage page. -/
def takeStagePage (o : ReqRef) (ops : Operands) (s : State) : State :=
  match slotOperand (opByte ops 0), modeOf (opByte ops 8).toNat with
  | some i, some m =>
    let r := s.panel.ring
    if i = r.current then refuse o .slotCurrent s
    else if !inHostArea (opWord ops 4).toNat (imageBytes s.panel.settings) then refuse o .protectedArea s
    else
      let before := r.slots[i].tag
      let t := s.withRing
        { r with slots := r.slots.set i.1 ⟨.ready, opWord ops 4, m, opWord ops 12⟩ i.2 }
      let (t, fired) :=
        match heldOn r i with
        | some d => (freshTurn d none (t.withRing { t.panel.ring with held := none }), 1)
        | none => (t, 0)
      finish o
        (outcomeDetail [(1, i.1), (1, before.code), (1, fired), (1, t.panel.ring.current.1),
          (2, t.panel.ring.ahead)]) t
  | _, _ => refuse o .range s

/-- R82: Free slot. -/
def takeFreeSlot (o : ReqRef) (ops : Operands) (s : State) : State :=
  match slotOperand (opByte ops 0) with
  | some i =>
    if i = s.panel.ring.current then refuse o .slotCurrent s
    else
      let before := (ringSlot s i).tag
      let t := s.withRing (s.panel.ring.withTag i .empty)
      finish o (outcomeDetail [(1, i.1), (1, before.code), (2, t.panel.ring.ahead)]) t
  | none => refuse o .range s

/-- All eight tags EMPTY, addresses, modes and labels kept (R78, R83). -/
def Ring.emptied (r : Ring) : Ring := { r with slots := r.slots.map fun x => { x with tag := .empty } }

/-- The reporting request of a held turn, held QUEUE_FULL. -/
def heldReport : Option HeldTurn → Option ReqRef
  | some (.queueFull _ _ _ rep) => rep
  | _ => none

/-- R83: Ring reset. -/
def takeRingReset (o : ReqRef) (ops : Operands) (s : State) : State :=
  match slotOperand (opByte ops 0) with
  | some i =>
    let r := s.panel.ring
    let t := s.withRing { r.emptied with current := i, held := none }
    let t := withdrawTurn (heldReport r.held) r.current t
    finish o (outcomeDetail [(1, r.current.1), (1, if r.held.isSome then 1 else 0)]) t
  | none => refuse o .range s

/-- R84: Show slot. -/
def takeShowSlot (o : ReqRef) (ops : Operands) (s : State) : State :=
  match slotOperand (opByte ops 0) with
  | some i =>
    if s.panel.setState.isAbsent then refuse o .noWaveform s
    else if tempRefusal s.panel then refuse o .temperature s
    else if (ringSlot s i).tag = .empty then refuse o .slotEmpty s
    else
      let t := s.withRing { s.panel.ring.withTag i .shown with current := i, held := none }
      addEntry (ringEntry t i (some o)) (writeOutcome o .queued .none 0 t)
  | none => refuse o .range s

/-- The direction of an operand byte. -/
def dirOperand (b : Byte) : Option Dir :=
  if b = 0 then some .next else if b = 1 then some .prev else none

/-- R86: Turn. -/
def takeTurn (o : ReqRef) (ops : Operands) (s : State) : State :=
  match dirOperand (opByte ops 0) with
  | some d =>
    if s.panel.setState.isAbsent then refuse o .noWaveform s
    else if tempRefusal s.panel then refuse o .temperature s
    else buttonTurn d (some o) s
  | none => refuse o .range s

/-- R95, step 1: restore-on-wake. -/
def restoreOnWake (s : State) : State :=
  if s.panel.settings.restoreOnWake ∧ (ringSlot s s.panel.ring.current).tag ≠ .empty
      ∧ ¬ s.panel.setState.isAbsent then
    addEntry (ringEntry s s.panel.ring.current none) s
  else s

/-- R95: what the panel engine does with a press that woke the part. -/
def wakePress (d : Dir) (s : State) : State :=
  let t := restoreOnWake s
  if t.panel.settings.turnOnWake then buttonTurn d none t else t

end Sys2Proof.Machine
end

