-- ==== Sys2Proof/Machine/PanelRequests.lean ====
section
/-! DEFINITION. Configure panel, Load waveform set and its completion, Update region and Cancel update
(R35, R36, R45 to R48, R55 to R57, R60), from step 4 of R27 on. -/

namespace Sys2Proof.Machine

/-! ## Configure panel -/

/-- R36: a change of width or height. -/
def changeGeometry (s : State) : State :=
  s.withPanel
    { s.panel with
      uncertain := []
      wholePanel := true
      ring := { s.panel.ring.emptied with held := none } }

/-- R36, R51: what a Configure panel does when the TEMP_RANGE flag went from `before` to `after`. -/
def retempMask (before after : Bool) (s : State) : State :=
  if s.panel.setState.isValid ∧ s.panel.range ≠ .inRange then
    if !before && after then occurTempRange s
    else if before && !after then scan s
    else s
  else s

/-- R36: every panel setting replaced, with the actions of what changed. -/
def applyPanel (n : PanelSettings) (s : State) : State :=
  let old := s.panel.settings
  let t := s.withPanel { s.panel with settings := n }
  let t := if n.width ≠ old.width ∨ n.height ≠ old.height then changeGeometry t else t
  retempMask old.mask.tempRange n.mask.tempRange t

/-- R35, R36: Configure panel. -/
def takeConfigurePanel (o : ReqRef) (ops : Operands) (s : State) : State :=
  let a := (opWord ops 0).toNat
  if !inHostArea a 32 then refuse o .protectedArea s
  else if !(allLanesFree s.panel && s.panel.queue.isEmpty) then refuse o .busy s
  else
    let r := s.mem.readBytes a 32
    match checkPanelRecord r with
    | .none => finish o 0 (applyPanel (panelRecord r) s)
    | reason => refuse o reason s

/-! ## Load waveform set -/

/-- R45: Load waveform set. The entries that wait now wait for the set (4.5; log 28). -/
def takeLoadWaveformSet (o : ReqRef) (ops : Operands) (s : State) : State :=
  let len := (opWord ops 4).toNat
  if s.panel.setState.isLoading || !allLanesFree s.panel then refuse o .busy s
  else if !between 128 len 4194304 then refuse o .range s
  else if !inHostArea (opWord ops 0).toNat len then refuse o .protectedArea s
  else
    holdForSet
      (writeOutcome o .queued .none 0
        (s.withPanel
          { s.panel with
            setState := .loading ⟨opWord ops 0, len, o, 0⟩
            band := none
            range := .inRange }))

/-- R46: the next `k` bytes of the copy into the waveform store. -/
def copyLoad (k : Nat) (s : State) : State :=
  match s.panel.setState with
  | .loading job =>
    let k := min k (job.length - job.copied)
    (s.withMem
      (s.mem.writeBytes (Config.waveBase + job.copied)
        (s.mem.readBytes (job.source.toNat + job.copied) k))).withPanel
      { s.panel with setState := .loading { job with copied := job.copied + k } }
  | _ => s

/-- R47: the copied set passed its checks. -/
def loadPassed (job : LoadJob) (s : State) : State :=
  let t := examineRange
    (s.withPanel
      { s.panel with setState := .valid, band := some (bandContaining s.mem s.panel.lastTemp) })
  scan
    (finish job.rep
      (outcomeDetail [(4, waveIdent s.mem), (2, waveBands s.mem), (4, waveTotal s.mem)]) t)

/-- R48: every entry in the queue is removed and failed NO_WAVEFORM. -/
def failQueue (reason : Reason) (s : State) : State :=
  s.panel.queue.foldl (fun t e => failEntry e reason t) (s.withQueue [])

/-- R48: check `k` failed. -/
def loadFailed (job : LoadJob) (k : Nat) (s : State) : State :=
  let t := s.withPanel { s.panel with setState := .absent, band := none }
  let t := writeOutcome job.rep .failed .waveformBad (outcomeDetail [(1, k), (4, waveIdent s.mem)]) t
  let t := occurNonmaskable .waveformBad (some job.rep) (frameDetail [(4, job.source.toNat), (1, k)]) t
  failQueue .noWaveform t

/-- R47, R48: the load completion event. -/
def completeLoad (s : State) : State :=
  match s.panel.setState with
  | .loading job =>
    let t := copyLoad job.length s
    let k := waveCheck t.mem job.length
    if k = 0 then loadPassed job t else loadFailed job k t
  | _ => s

/-! ## Update region -/

/-- The operands of an Update region (4.1). -/
structure UpdateOps where
  rect : Rect
  image : Word
  stride : Nat
  mode : Mode
deriving DecidableEq, Repr

/-- The rectangle named by the operands. -/
def updateRect (ops : Operands) : Rect :=
  ⟨(opHalf ops 0).toNat, (opHalf ops 2).toNat, (opHalf ops 4).toNat, (opHalf ops 6).toNat⟩

/-- A rectangle lies on the panel (R56). -/
def onPanel (p : PanelSettings) (r : Rect) : Bool :=
  decide (r.x + r.w ≤ p.width) && decide (r.y + r.h ≤ p.height)

/-- R56: the rectangle trimmed to the panel. -/
def clipRect (p : PanelSettings) (r : Rect) : Rect :=
  { r with w := min r.w (p.width - r.x), h := min r.h (p.height - r.y) }

/-- R55, step 7: the image bytes that the lane will read lie in the host area. -/
def imageInHostArea (u : UpdateOps) : Bool :=
  inHostArea u.image.toNat ((u.rect.h - 1) * u.stride + u.rect.w / 2)

/-- R57: an Update region is taken into the pending queue. -/
def queueUpdate (o : ReqRef) (u : UpdateOps) (clipped : Bool) (s : State) : State :=
  addEntry ⟨.request o, u.rect, u.image, u.stride, u.mode, false, clipped, .none, none, false⟩
    (writeOutcome o .queued .none 0 s)

/-- R55, step 7, and R57. -/
def admitUpdate (o : ReqRef) (u : UpdateOps) (clipped : Bool) (s : State) : State :=
  if imageInHostArea u then queueUpdate o u clipped s else refuse o .protectedArea s

/-- R56: a rectangle off the panel is refused or clipped. -/
def clipUpdate (o : ReqRef) (u : UpdateOps) (s : State) : State :=
  let p := s.panel.settings
  let t := accrue .clipped s
  if p.mask.clipped then refuse o .clipped t
  else if u.rect.x ≥ p.width ∨ u.rect.y ≥ p.height then
    finish o (updateDetail 255 u.mode.code 0 0 0 0 0 (updateFlags false true false)) t
  else admitUpdate o { u with rect := clipRect p u.rect } true t

/-- R55: Update region. -/
def takeUpdateRegion (o : ReqRef) (ops : Operands) (s : State) : State :=
  let r := updateRect ops
  match modeOf (opByte ops 14).toNat with
  | none => refuse o .range s
  | some m =>
    if r.x % 2 ≠ 0 ∨ r.w % 2 ≠ 0 then refuse o .range s
    else if r.w = 0 ∨ r.h = 0 then finish o 0 s
    else if (opHalf ops 12).toNat < r.w / 2 then refuse o .range s
    else if s.panel.setState.isAbsent then refuse o .noWaveform s
    else if tempRefusal s.panel then refuse o .temperature s
    else
      let u : UpdateOps := ⟨r, opWord ops 8, (opHalf ops 12).toNat, m⟩
      if onPanel s.panel.settings r then admitUpdate o u false s else clipUpdate o u s

/-! ## Cancel update -/

/-- The entry, or lane, carries the Update region of a bundle and slot. -/
def namesUpdate (bundle : Word) (slot : Nat) : Option EntryOrigin → Bool
  | some (.request r) => r.bundle == bundle && r.slot.1 == slot
  | _ => false

/-- The chain unit holds the bundle, on any chain, and records the slot's outcome as final (R60). -/
def recordedFinal (s : State) (bundle : Word) (slot : Fin 3) : Bool :=
  s.readers.toList.any fun r =>
    match r.holds bundle with
    | some b => (b.outcomes[slot]).final
    | none => false

/-- R60: the answer when neither queue nor lanes carry the update. -/
def cancelElsewhere (o : ReqRef) (bundle : Word) (slot : Fin 3) (s : State) : State :=
  if recordedFinal s bundle slot then
    writeOutcome o .refused .tooLate (outcomeDetail [(1, 255)]) s
  else refuse o .range s

/-- R60: Cancel update. -/
def takeCancelUpdate (o : ReqRef) (ops : Operands) (s : State) : State :=
  let bundle := opWord ops 0
  let slot := (opByte ops 4).toNat
  if h : slot < 3 then
    match s.panel.queue.findIdx? fun e => namesUpdate bundle slot (some e.origin) with
    | some i =>
      let t := dropEntry i s
      let t :=
        match (s.panel.queue[i]?).map Entry.origin with
        | some (.request r) => writeOutcome r .cancelled .none 0 t
        | _ => t
      finish o (outcomeDetail [(1, i)]) t
    | none =>
      match laneNumbers.find? fun n => !(laneOf s n).isFree && namesUpdate bundle slot (laneOf s n).origin with
      | some n => writeOutcome o .refused .tooLate (outcomeDetail [(1, n.1)]) s
      | none => cancelElsewhere o bundle ⟨slot, h⟩ s
  else refuse o .range s

/-! ## Budget clocks (R65) -/

/-- The frame detail of BUDGET_WAIT: rectangle, claim and the budget computed last (R76). -/
def budgetWaitDetail (s : State) (e : Entry) : BitVec 128 :=
  frameDetail (rectItems e.rect ++ [(2, waveBurst s.mem e.mode.code), (2, s.power.budget)])

/-- R65: the budget clock of the entry at place `i` expires. -/
def expireBudgetClock (i : Nat) (s : State) : State :=
  match s.panel.queue[i]? with
  | none => s
  | some e =>
    if e.clock.isNone || s.panel.settings.budgetLimit == 0 then s
    else if s.panel.settings.mask.budgetWait then
      failEntry e .budgetWait (occurForEntry e .budgetWait (budgetWaitDetail s e) (dropEntry i s))
    else
      let t := putEntry i { e with clock := none, counted := true } s
      if e.counted then t else accrue .budgetWait t

/-- R64: the entry at place `i` starts, when it has not been examined since it joined the queue and the scan
would start it. An entry that a scan has held waits for the next scan event (R58, R61). -/
def tryStart (i : Nat) (s : State) : State :=
  match s.panel.queue[i]? with
  | none => s
  | some e => if scanOpen s.panel && e.hold == .none then (examineEntry i e s).1 else s

end Sys2Proof.Machine
end

