-- ==== Sys2Proof/Machine/LightRequests.lean ====
section
/-! DEFINITION. Configure light and Set light, the ramp, the ambient samples and the auto level (chapter 6).
The requests are given from step 4 of R27 on. -/

namespace Sys2Proof.Machine

/-! ## The auto level (R107) -/

/-- R107: the level on the segment from one point to the next; the division truncates toward zero. -/
def segmentLevel (a : Nat) (p q : Nat × Nat) : Nat :=
  ((p.2 : Int) + (((a : Int) - p.1) * ((q.2 : Int) - p.2)).tdiv ((q.1 : Int) - p.1)).toNat

/-- R107 beyond the first point: the segment that covers the reading, or the last point's level. -/
def tableLevel (a : Nat) : List (Nat × Nat) → Nat
  | [] => 0
  | [p] => p.2
  | p :: q :: rest => if a < q.1 then segmentLevel a p q else tableLevel a (q :: rest)

/-- R107: the auto level for a reading. -/
def autoLevel (points : List (Nat × Nat)) (a : Nat) : Nat :=
  match points with
  | [] => 0
  | p :: rest => if a ≤ p.1 then p.2 else tableLevel a (p :: rest)

/-- The auto level for the last answered reading, adopted without the hysteresis test (R97, R99). -/
def Light.adopt (l : Light) : Light := { l with level := autoLevel l.settings.points l.lux }

/-- R108: the auto level is adopted when it differs from the level in use by at least the hysteresis. -/
def Light.offerAuto (l : Light) : Light :=
  let v := autoLevel l.settings.points l.lux
  if l.auto ∧ l.settings.hysteresis ≤ ((v : Int) - l.level).natAbs then ({ l with level := v } : Light).remix
  else l

/-! ## Configure light -/

/-- The frame detail of SENSOR_LOST (R110). -/
def sensorLostDetail (l : Light) : BitVec 128 := frameDetail [(2, l.lux), (2, l.level)]

/-- R97: the light after every setting is replaced. Where the auto table and a full-drive current change together
in AUTO, the new level is adopted first, and the cut is to the limited duties that follow from it (log 48). -/
def Light.reconfigure (l : Light) (n : LightSettings) : Light :=
  let m : Light := { l with settings := n }
  let m := if l.auto ∧ n.points ≠ l.settings.points then m.adopt.remix else m
  if n.ifw ≠ l.settings.ifw ∨ n.ifc ≠ l.settings.ifc then m.remix.cut else m

/-- R97: an enable flag that becomes enabled during its episode gives one occurrence, GRANT_LIMITED before
SENSOR_LOST (log 40). -/
def enableEpisodes (old : Light) (s : State) : State :=
  let t :=
    if old.limiting ∧ s.light.limitingNow ∧ ¬ old.settings.grantLimited ∧ s.light.settings.grantLimited then
      occur .grantLimited (grantLimitedDetail s.light) s
    else s
  if old.lost ∧ ¬ old.settings.sensorLost ∧ t.light.settings.sensorLost then
    occur .sensorLost (sensorLostDetail t.light) t
  else t

/-- R97: every light setting replaced, with the actions of what changed. -/
def applyLight (n : LightSettings) (s : State) : State :=
  enableEpisodes s.light (s.withLight (s.light.reconfigure n))

/-- R96, R97: Configure light. -/
def takeConfigureLight (o : ReqRef) (ops : Operands) (s : State) : State :=
  let a := (opWord ops 0).toNat
  if !inHostArea a 48 then refuse o .protectedArea s
  else
    let r := s.mem.readBytes a 48
    match checkLightRecord r with
    | .none => finish o 0 (applyLight (lightRecord r) s)
    | reason => refuse o reason s

/-! ## Set light -/

/-- R99, steps 1 to 5. -/
def Light.set (l : Light) (level warmth : Nat) (auto : Bool) : Light :=
  let m : Light := { l with warmth := min warmth 100 }
  (if auto then
    if l.auto then m else ({ m with auto := true } : Light).adopt
  else { m with auto := false, level := min level 1000 }).remix

/-- The detail of a Set light that is DONE (R99): its flags from bit 0 in the order listed (log 18). -/
def setLightDetail (l : Light) (levelClamped warmthClamped : Bool) : BitVec 112 :=
  outcomeDetail [(2, l.level), (1, l.warmth), (1, if l.auto then 1 else 0), (2, l.dw), (2, l.dc), (2, l.lw),
    (2, l.lc), (1, bitsNat [levelClamped, warmthClamped, l.limitingNow])]

/-- R98, R99: Set light. A level above 1000 is taken as 1000 and sets the level-clamped flag. Beside the auto flag 1
the level is 0 here (R27, step 2; log 36). -/
def takeSetLight (o : ReqRef) (ops : Operands) (s : State) : State :=
  let level := (opHalf ops 0).toNat
  let warmth := (opByte ops 2).toNat
  let auto := (opByte ops 3).toNat
  if 1 < auto then refuse o .range s
  else
    let l := s.light.set level warmth (auto == 1)
    finish o (setLightDetail l (decide (1000 < level)) (decide (100 < warmth))) (s.withLight l)

/-! ## The ramp (R104, R105) -/

/-- R105, step 1. -/
def lowerDuty (step present limited : Nat) : Nat :=
  if limited < present then max limited (present - step) else present

/-- R105, step 2: the room for a channel under the grant, in duty counts. -/
def rampRoom (l : Light) (pw pc ifx : Nat) : Nat :=
  (l.g * 4095 - (pw * l.settings.ifw + pc * l.settings.ifc)) / ifx

/-- R105, step 2, for one channel with its room. -/
def raiseDuty (step present limited room : Nat) : Nat :=
  if present < limited then present + min step (min (limited - present) room) else present

/-- R105: one ramp step; the warm channel is raised first. -/
def Light.step (l : Light) : Light :=
  let pw := lowerDuty l.settings.step l.pw l.lw
  let pc := lowerDuty l.settings.step l.pc l.lc
  let pw' := raiseDuty l.settings.step pw l.lw (rampRoom l pw pc l.settings.ifw)
  let pc' := raiseDuty l.settings.step pc l.lc (rampRoom l pw' pc l.settings.ifc)
  { l with
    pw := pw'
    pc := pc'
    ramp := if pw' = l.lw ∧ pc' = l.lc then none else some 10 }

/-- R104, R105: a ramp step, when the ramp clock runs. -/
def rampStep (s : State) : State :=
  if s.light.ramp.isSome && !s.asleep then s.withLight s.light.step else s

/-- R104: the ramp clock starts at the end of an event that leaves a present duty different from its limited
duty. It does not run in SLEEP. -/
def startRamp (s : State) : State :=
  if s.light.ramp.isNone && !s.asleep && (s.light.pw != s.light.lw || s.light.pc != s.light.lc) then
    s.withLight { s.light with ramp := some 10 }
  else s

/-! ## Ambient samples (R106, R108, R110) -/

/-- R106: the engine asks the sensor for a reading. -/
def startSample (s : State) : State :=
  if s.light.sampleClock.isSome then
    s.withLight { s.light with sample := some 0, sampleClock := some 500 }
  else s

/-- R106: an answered sample. -/
def answerSample (lux : Nat) (s : State) : State :=
  if s.light.sample.isSome then
    s.withLight ({ s.light with sample := none, lux := lux, lost := false } : Light).offerAuto
  else s

/-- R106: a sample ends unanswered. -/
def loseSample (s : State) : State :=
  if s.light.sample.isSome then
    let t := s.withLight { s.light with sample := none, lost := true }
    if s.light.lost then t else occur .sensorLost (sensorLostDetail t.light) t
  else s

end Sys2Proof.Machine
end

