-- ==== Sys2Proof/Machine/LinkFrames.lean ====
section
/-! DEFINITION. Link frames as bytes: header fields, the CRC of a frame, outbound frames and the outbound
queue, and what goes on the transmit line (7.4, 7.5, 7.7). -/

namespace Sys2Proof.Machine

/-! ## Header fields (12.7) -/

/-- The little-endian field of `n` bytes at offset `i` of a frame. -/
def frameField (bytes : List Byte) (i n : Nat) : Nat := leNat ((bytes.drop i).take n)

/-- The station. -/
def frameStation (b : List Byte) : Nat := frameField b 0 1
/-- The kind. -/
def frameKind (b : List Byte) : Nat := frameField b 1 1
/-- The parcel number. -/
def frameParcel (b : List Byte) : Half := BitVec.ofNat 16 (frameField b 2 2)
/-- The block number. -/
def frameBlock (b : List Byte) : Nat := frameField b 4 2
/-- The payload length of the header, 0 while it is not decoded. -/
def frameLength (b : List Byte) : Nat := if b.length < 8 then 0 else frameField b 6 2
/-- The payload. -/
def framePayload (b : List Byte) : List Byte := (b.drop 8).take (frameLength b)

/-- R123, check 2: the CRC received, read low byte first. -/
def crcReceived (b : List Byte) : Nat := leNat (b.drop (b.length - 2))

/-- R123, check 2: the CRC computed over all decoded bytes but the last two. -/
def crcComputed (b : List Byte) : Nat := (crc16 (b.take (b.length - 2))).toNat

/-- The header items of a frame fault (R129): station, kind, parcel number, block number, payload length. -/
def headerItems (b : List Byte) : List (Nat × Nat) :=
  [(1, frameStation b), (1, frameKind b), (2, (frameParcel b).toNat), (2, frameBlock b), (2, frameLength b)]

/-- The detail of SIZE: decoded length, payload length field and kind if decoded, and which of the three
occurrences of R129, numbered 1 to 3 in its order (log 18). -/
def sizeDetail (b : List Byte) (which : Nat) : BitVec 128 :=
  frameDetail [(2, b.length), (2, frameLength b), (1, frameKind b), (1, which)]

/-- The detail of CRC (R129). -/
def crcDetail (b : List Byte) : BitVec 128 :=
  frameDetail (headerItems b ++ [(2, crcReceived b), (2, crcComputed b)])

/-- The detail of ABORT: the decoded length, and station and kind if decoded (R129). -/
def abortDetail (b : List Byte) : BitVec 128 :=
  frameDetail [(2, b.length), (1, frameStation b), (1, frameKind b)]

/-! ## Outbound frames (7.7) -/

/-- Outbound kinds. -/
inductive OutKind where
  | gap | taken | refuse
deriving DecidableEq, Repr

/-- Outbound kind codes (7.7). -/
def OutKind.code : OutKind → Byte
  | .gap => 0x81 | .taken => 0x82 | .refuse => 0x83

/-- The header and payload of an outbound frame: the station in force, the kind, the parcel number, block
number 0 and the payload length (7.7). -/
def outBytes (station : Byte) (kind : OutKind) (parcel : Half) (payload : List Byte) : List Byte :=
  [station, kind.code] ++ leBytes 2 parcel.toNat ++ [0, 0] ++ leBytes 2 payload.length ++ payload

/-- R127: a queued frame that a new frame replaces in place. -/
def OutFrame.replacedBy (f g : OutFrame) : Bool :=
  match g.place with
  | .record r => f.place == .record r
  | .refuse => f.place == .refuse && f.parcel == g.parcel

/-- The frames in REFUSE places. -/
def refuseCount (q : List OutFrame) : Nat := (q.filter fun f => f.place == .refuse).length

/-- R127: the outbound queue after a frame joins it or replaces one in place; with the four REFUSE places
taken a new REFUSE is not queued. -/
def joinOutbound (q : List OutFrame) (g : OutFrame) : List OutFrame :=
  if q.any fun f => f.replacedBy g then q.map fun f => if f.replacedBy g then g else f
  else
    match g.place with
    | .record _ => q ++ [g]
    | .refuse => if refuseCount q < 4 then q ++ [g] else q

/-- R127: a frame the parcel table would queue; none is queued while the rail is OFF. -/
def queueOut (place : OutPlace) (kind : OutKind) (parcel : Half) (payload : List Byte)
    (s : State) : State :=
  if s.link.rail then
    s.withLink
      { s.link with
        outbound :=
          joinOutbound s.link.outbound
            ⟨place, parcel, outBytes s.link.settings.station kind parcel payload⟩ }
  else s

/-! ## The transmit line (R120, R128) -/

/-- A data byte as sent (7.4). -/
def escapeByte (b : Byte) : List Byte :=
  if b = Config.delimiter ∨ b = Config.escape then [Config.escape, b ^^^ 0x40] else [b]

/-- The bytes on the transmit line for a frame: delimiter, escaped header, payload and CRC-16, delimiter
(R128). -/
def lineBytes (f : OutFrame) : List Byte :=
  [Config.delimiter] ++ (f.bytes ++ leBytes 2 (crc16 f.bytes).toNat).flatMap escapeByte
    ++ [Config.delimiter]

/-- R128: the sending of a frame begins, with its opening delimiter. -/
def Link.opens (l : Link) (f : OutFrame) (q : List OutFrame) : Link :=
  { l with outbound := q, sending := some f, sent := 1, line := some Config.delimiter }

/-- R128: the closing delimiter of the frame in progress is sent. -/
def Link.closes (l : Link) : Link := { l with sending := none, sent := 0, line := some Config.delimiter }

/-- R128: one transmit clock, while the rail is ON. A frame in progress has its next byte sent; else the oldest frame
of the queue begins; else a delimiter is sent as fill. -/
def Link.transmit (l : Link) : Link :=
  if l.rail then
    match l.sending, l.outbound with
    | some f, _ =>
      if l.sent + 1 < (lineBytes f).length then { l with sent := l.sent + 1, line := (lineBytes f)[l.sent]? }
      else l.closes
    | none, f :: q => l.opens f q
    | none, [] => { l with line := some Config.delimiter }
  else l

/-- The next transmit clock begins or ends a frame, which is an event of its own. -/
def Link.atFrameEvent (l : Link) : Bool :=
  match l.sending, l.outbound with
  | some f, _ => decide ((lineBytes f).length ≤ l.sent + 1)
  | none, _ :: _ => true
  | none, [] => false

/-- At most `n` transmit clocks, up to the next one that begins or ends a frame (log 23). -/
def Link.transmitUpTo : Nat → Link → Link
  | 0, l => l
  | n + 1, l => if l.atFrameEvent then l else transmitUpTo n l.transmit

/-- R128: the transmit clock at which the sending of the oldest outbound frame begins. -/
def startSending (s : State) : State :=
  if s.link.rail && s.link.sending.isNone && !s.link.outbound.isEmpty then s.withLink s.link.transmit else s

/-- R128: the transmit clock that sends the closing delimiter of the frame in progress, after the bytes that are left
of it. -/
def endSending (s : State) : State := if s.link.sending.isSome then s.withLink s.link.closes else s

end Sys2Proof.Machine
end

