-- ==== Sys2Proof/Machine/Parcels.lean ====
section
/-! DEFINITION. The parcel table: OPEN, BLOCK and ABANDON frames, block writes, quiet timers and GAP frames,
verify passes, failures, and the parcel requests from step 4 of R27 on (chapter 8). -/

namespace Sys2Proof.Machine

/-! ## Records -/

/-- The records in increasing index. -/
def recordNumbers : List (Fin 8) := [0, 1, 2, 3, 4, 5, 6, 7]

/-- A parcel record. -/
def parcelOf (s : State) (r : Fin 8) : Parcel := s.link.parcels[r]

/-- The one non-FREE record that holds a parcel number (R132). -/
def recordOf (s : State) (number : Half) : Option (Fin 8) :=
  recordNumbers.find? fun r => (parcelOf s r).state != .free && (parcelOf s r).number == number

/-- The lowest-numbered FREE record (R134). -/
def freeRecord (s : State) : Option (Fin 8) := recordNumbers.find? fun r => (parcelOf s r).state == .free

/-- The index of a record as a detail item, 255 when there is none. -/
def recordItem : Option (Fin 8) → Nat
  | some r => r.1
  | none => 255

/-- The received count, 0 while the OPEN fields are absent. -/
def Parcel.received (p : Parcel) : Nat := (p.fields.map OpenFields.received).getD 0
/-- The block count, 0 while absent. -/
def Parcel.count (p : Parcel) : Nat := (p.fields.map OpenFields.count).getD 0
/-- The total length, 0 while absent. -/
def Parcel.total (p : Parcel) : Nat := (p.fields.map OpenFields.total).getD 0
/-- The gap count, 0 while absent. -/
def Parcel.gaps (p : Parcel) : Nat := (p.fields.map OpenFields.gaps).getD 0
/-- The received map, empty while absent. -/
def Parcel.map (p : Parcel) : List Bool := (p.fields.map OpenFields.map).getD []

/-- R142: a quiet timer started with the full quiet time, paused from the start while the rail is OFF. -/
def freshQuiet (l : Link) : Quiet :=
  let t := l.settings.quietTime * 1000
  if l.rail then .running t else .paused t

/-- R142: a quiet timer at a rail-off. -/
def Quiet.pause : Quiet → Quiet
  | .running t => .paused t
  | q => q

/-- R142: a quiet timer at a rail-on. -/
def Quiet.resume : Quiet → Quiet
  | .paused t => .running t
  | q => q

/-! ## The end of a handling (R125, R141) -/

/-- The handling ends: its buffer becomes FREE (R125). -/
def endHandling (s : State) : State :=
  match s.link.handling with
  | some b =>
    s.withLink { s.link with handling := none, buffers := s.link.buffers.set b.1 [] b.2 }
  | none => s

/-- A record fails with a reason (R135, R138, R143, R145, R147, R148): its quiet timer stops, its block write
stops and the frame's handling ends with it (R141), its verify pass is abandoned. PARCEL is raised by the
caller. -/
def failRecord (r : Fin 8) (reason : Reason) (s : State) : State :=
  let p := parcelOf s r
  let t := s.withParcel r
    { p with state := .failed, reason := reason, quiet := .stopped, write := none, verify := none }
  if p.write.isSome then endHandling t else t

/-! ## Verify (R144, R145) -/

/-- R144: the verify pass reads the next `k` bytes. -/
def readVerify (r : Fin 8) (k : Nat) (s : State) : State :=
  let p := parcelOf s r
  match p.verify with
  | some v =>
    let k := min k (p.total - v.done)
    s.withParcel r
      { p with
        verify :=
          some ⟨v.done + k, crc32Over v.crc (s.mem.readBytes (p.buffer.toNat + v.done) k)⟩ }
  | none => s

/-- R145: the computed CRC equals the digest. -/
def verifyPassed (r : Fin 8) (digest : Word) (s : State) : State :=
  let p := parcelOf s r
  raise .parcel
    (queueOut (.record r) .taken p.number (leBytes 4 digest.toNat)
      (s.withParcel r { p with state := .complete, verify := none }))

/-- The detail of DIGEST (R150). -/
def digestDetail (r : Fin 8) (p : Parcel) (computed digest : Word) : BitVec 128 :=
  frameDetail [(1, r.1), (2, p.number.toNat), (4, computed.toNat), (4, digest.toNat)]

/-- R145: the verify completion of a record with the CRC computed. -/
def settleVerify (r : Fin 8) (computed : Word) (s : State) : State :=
  let p := parcelOf s r
  let digest := (p.fields.map OpenFields.digest).getD 0
  if computed = digest then verifyPassed r digest s
  else occur .digest (digestDetail r p computed digest) (raise .parcel (failRecord r .digest s))

/-- R145: the verify completion event of a record: the pass reads what is left and is settled. -/
def completeVerify (r : Fin 8) (s : State) : State :=
  if (parcelOf s r).state = .verifying then
    let t := readVerify r (parcelOf s r).total s
    match (parcelOf t r).verify with
    | some v => settleVerify r (~~~v.crc) t
    | none => s
  else s

/-- A record enters VERIFYING and its verify pass begins (R141, R144). -/
def enterVerifying (r : Fin 8) (s : State) : State :=
  s.withParcel r
    { parcelOf s r with state := .verifying, quiet := .stopped, verify := some ⟨0, crc32Preset⟩ }

/-! ## OPEN (R138, R139) -/

/-- The block size of a code (8.3). -/
def blockSizeOf (code : Nat) : Nat := 256 * 2 ^ code

/-- R138: the announced parcel does not fit its record. -/
def openTooLarge (p : Parcel) (total code : Nat) : Bool :=
  decide (2 < code) || decide (p.capacity < total) || decide (8192 * blockSizeOf code < total)

/-- The OPEN fields of an accepted OPEN (R138). -/
def openFields (total code : Nat) (digest : Word) : OpenFields :=
  let size := blockSizeOf code
  let count := (total + size - 1) / size
  ⟨total, size, count, digest, List.replicate count false, 0, 0⟩

/-- R138: an OPEN that does not fit: FAILED TOO_LARGE, REFUSE 0x02 in the record's place, PARCEL. -/
def refuseOpen (r : Fin 8) (s : State) : State :=
  let t := failRecord r .tooLarge s
  let t := t.withParcel r { parcelOf t r with fields := none }
  raise .parcel (queueOut (.record r) .refuse (parcelOf t r).number [0x02] t)

/-- R138: an accepted OPEN. -/
def acceptOpen (r : Fin 8) (f : OpenFields) (s : State) : State :=
  let t := s.withParcel r
    { parcelOf s r with
      state := .filling
      fields := some f
      reason := .none
      quiet := freshQuiet s.link
      write := none
      verify := none }
  if f.count = 0 then completeVerify r (enterVerifying r t) else t

/-- R138: an OPEN checked against a record. -/
def openRecord (r : Fin 8) (total code : Nat) (digest : Word) (s : State) : State :=
  if openTooLarge (parcelOf s r) total code then refuseOpen r s
  else acceptOpen r (openFields total code digest) s

/-- The detail of UNKNOWN_PARCEL (R150). -/
def unknownDetail (b : List Byte) (r : Option (Fin 8)) : BitVec 128 :=
  frameDetail [(1, frameKind b), (2, (frameParcel b).toNat), (2, frameBlock b), (1, recordItem r)]

/-- R139: an OPEN that concerns no record: REFUSE 0x01 in a REFUSE place, and UNKNOWN_PARCEL. -/
def openUnknown (b : List Byte) (s : State) : State :=
  occur .unknownParcel (unknownDetail b none)
    (queueOut .refuse .refuse (frameParcel b) [0x01] s)

/-- The OPEN repeats the record's fields (R139). -/
def sameOpen (p : Parcel) (total code : Nat) (digest : Word) : Bool :=
  match p.fields with
  | some f => f.total == total && f.blockSize == blockSizeOf code && f.digest == digest
  | none => false

/-- R138, R139: an OPEN handed to the parcel table. -/
def handleOpen (b : List Byte) (s : State) : State :=
  let total := frameField b 8 4
  let code := frameField b 12 1
  let digest : Word := BitVec.ofNat 32 (frameField b 13 4)
  match recordOf s (frameParcel b) with
  | none => openUnknown b s
  | some r =>
    let p := parcelOf s r
    match p.state with
    | .armed => openRecord r total code digest s
    | .filling => if sameOpen p total code digest then s else openRecord r total code digest s
    | .verifying => s
    | .complete =>
      if sameOpen p total code digest then
        queueOut (.record r) .taken p.number (leBytes 4 digest.toNat) s
      else s
    | .failed => openUnknown b s
    | .free => s

/-! ## BLOCK (R140, R141) -/

/-- R140, check 2: the payload length a block must have. -/
def blockLength (f : OpenFields) (n : Nat) : Nat :=
  if n + 1 = f.count then f.total - (f.count - 1) * f.blockSize else f.blockSize

/-- R140: a BLOCK for a FILLING record. The state after it, which starts a block write or is discarded. -/
def fillBlock (r : Fin 8) (f : OpenFields) (b : List Byte) (s : State) : State :=
  let n := frameBlock b
  let p := parcelOf s r
  if f.count ≤ n then
    occur .blockRange (frameDetail [(1, r.1), (2, p.number.toNat), (2, n), (2, f.count)]) s
  else if frameLength b ≠ blockLength f n then
    occur .blockLength
      (frameDetail [(1, r.1), (2, p.number.toNat), (2, n), (2, frameLength b), (2, blockLength f n)]) s
  else if f.map.getD n false then s
  else s.withParcel r { p with write := some ⟨n, 0⟩ }

/-- R140: a BLOCK handed to the parcel table. -/
def handleBlock (b : List Byte) (s : State) : State :=
  match recordOf s (frameParcel b) with
  | none => occur .unknownParcel (unknownDetail b none) s
  | some r =>
    match (parcelOf s r).state with
    | .filling =>
      match (parcelOf s r).fields with
      | some f => fillBlock r f b s
      | none => s
    | .armed => occur .unknownParcel (unknownDetail b (some r)) s
    | .verifying | .complete | .failed | .free => s

/-- A block write is in progress for some record. -/
def writingRecord (s : State) : Option (Fin 8) :=
  recordNumbers.find? fun r => (parcelOf s r).write.isSome

/-- The payload of the frame being handled. -/
def handledPayload (l : Link) : List Byte :=
  match l.handling with
  | some b => framePayload l.buffers[b]
  | none => []

/-- R141: the next `k` bytes of the block write in progress. -/
def copyBlock (k : Nat) (s : State) : State :=
  match writingRecord s with
  | none => s
  | some r =>
    let p := parcelOf s r
    match p.write, p.fields with
    | some w, some f =>
      let rest := ((handledPayload s.link).drop w.copied).take k
      let t := s.withMem
        (s.mem.writeBytes (p.buffer.toNat + w.block * f.blockSize + w.copied) rest)
      t.withParcel r { p with write := some ⟨w.block, w.copied + rest.length⟩ }
    | _, _ => s

/-- R141, steps 1 and 2, and the record's part of step 3. -/
def countBlock (r : Fin 8) (n : Nat) (s : State) : State :=
  let p := parcelOf s r
  s.withParcel r
    { p with
      fields := p.fields.map fun f =>
        { f with map := f.map.set n true, received := f.received + 1, gaps := 0 }
      quiet := freshQuiet s.link
      write := none }

/-- R141, step 4: every block is received. -/
def verifyWhenFull (r : Fin 8) (s : State) : State :=
  let p := parcelOf s r
  if p.state = .filling ∧ p.received = p.count then enterVerifying r s else s

/-! ## ABANDON (R147) -/

/-- R147: an ABANDON handed to the parcel table. -/
def handleAbandon (b : List Byte) (s : State) : State :=
  match recordOf s (frameParcel b) with
  | none => s
  | some r =>
    match (parcelOf s r).state with
    | .filling | .verifying => raise .parcel (failRecord r .abandoned s)
    | .armed | .complete | .failed | .free => s

/-! ## Quiet timers and GAP frames (R143) -/

/-- The maximal runs of clear flags from block `i` on, `run` being the length of the run that ends before
block `i` (R143). -/
def clearRuns : List Bool → Nat → Nat → List (Nat × Nat)
  | [], i, run => if run = 0 then [] else [(i - run, run)]
  | true :: m, i, run => (if run = 0 then [] else [(i - run, run)]) ++ clearRuns m (i + 1) 0
  | false :: m, i, run => clearRuns m (i + 1) (run + 1)

/-- R143: the GAP payload: the first eight ranges of missing blocks. -/
def gapPayload (map : List Bool) : List Byte :=
  let ranges := (clearRuns map 0 0).take 8
  BitVec.ofNat 8 ranges.length :: ranges.flatMap fun r => leBytes 2 r.1 ++ leBytes 2 r.2

/-- The detail of STALLED (R150). -/
def stalledDetail (r : Fin 8) (p : Parcel) : BitVec 128 :=
  frameDetail [(1, r.1), (2, p.number.toNat), (2, p.received), (2, p.count), (2, p.gaps)]

/-- A quiet timer runs. -/
def Quiet.isRunning : Quiet → Bool
  | .running _ => true
  | _ => false

/-- R143: the expiry of a record's quiet timer, before the next HELD frame is taken. -/
def expireQuiet (r : Fin 8) (s : State) : State :=
  let p := parcelOf s r
  if p.quiet.isRunning then
    if s.link.settings.gapLimit ≤ p.gaps + 1 then
      occur .stalled (stalledDetail r p) (raise .parcel (failRecord r .stalled s))
    else
      let t := queueOut (.record r) .gap p.number (gapPayload p.map) s
      t.withParcel r
        { p with
          fields := p.fields.map fun f => { f with gaps := f.gaps + 1 }
          quiet := freshQuiet s.link }
  else s

/-! ## Sleep and brownout (R148) -/

/-- R148: every record in one of the given states fails SLEPT. -/
def failSleptIn (states : List ParcelState) (s : State) : State :=
  recordNumbers.foldl
    (fun t r => if (parcelOf t r).state ∈ states then failRecord r .slept t else t) s

/-- The number of records in one of the given states. -/
def countIn (states : List ParcelState) (s : State) : Nat :=
  (recordNumbers.filter fun r => (parcelOf s r).state ∈ states).length

/-- R148: the failures of one event, with PARCEL raised once when there is one. -/
def failSlept (states : List ParcelState) (s : State) : State :=
  if countIn states s = 0 then s else raise .parcel (failSleptIn states s)

/-! ## Requests (R134 to R137) -/

/-- R134: Arm parcel. -/
def takeArmParcel (o : ReqRef) (ops : Operands) (s : State) : State :=
  let capacity := (opWord ops 8).toNat
  if capacity = 0 then refuse o .range s
  else if (recordOf s (opHalf ops 0)).isSome then refuse o .duplicate s
  else
    match freeRecord s with
    | none => refuse o .tableFull s
    | some r =>
      if !inHostArea (opWord ops 4).toNat capacity then refuse o .protectedArea s
      else
        finish o (outcomeDetail [(1, r.1)])
          (s.withParcel r
            { Parcel.free with
              state := .armed
              number := opHalf ops 0
              buffer := opWord ops 4
              capacity := capacity })

/-- The detail of a Cancel parcel (R135); with no record, the state and the received count are 0 (log 42). -/
def cancelParcelDetail (s : State) (r : Option (Fin 8)) : BitVec 112 :=
  match r with
  | some i => outcomeDetail [(1, i.1), (1, (parcelOf s i).state.code), (2, (parcelOf s i).received)]
  | none => outcomeDetail [(1, 255)]

/-- R136: Release parcel. -/
def takeReleaseParcel (o : ReqRef) (ops : Operands) (s : State) : State :=
  match recordOf s (opHalf ops 0) with
  | none => refuse o .range s
  | some r =>
    let p := parcelOf s r
    match p.state with
    | .complete | .failed =>
      finish o (outcomeDetail [(1, r.1), (1, p.state.code), (1, p.reason.code.toNat)])
        (s.withParcel r Parcel.free)
    | .armed | .filling | .verifying | .free =>
      writeOutcome o .refused .busy (outcomeDetail [(1, r.1), (1, p.state.code)]) s

/-- The lowest block number whose flag is clear, modulo 256; 0 when none is missing (R137). -/
def lowestMissing (map : List Bool) : Nat := ((map.findIdx? fun b => !b).getD 0) % 256

/-- The detail of a Report parcel (R137). -/
def reportDetail (p : Parcel) : BitVec 112 :=
  outcomeDetail [(1, p.state.code), (1, p.reason.code.toNat), (2, p.received), (2, p.count), (4, p.total),
    (2, p.number.toNat), (1, p.gaps), (1, lowestMissing p.map)]

/-- R137: Report parcel. -/
def takeReportParcel (o : ReqRef) (ops : Operands) (s : State) : State :=
  match slotOperand (opByte ops 0) with
  | some r => finish o (reportDetail (parcelOf s r)) s
  | none => refuse o .range s

end Sys2Proof.Machine
end

