-- ==== Sys2Proof/Machine/Receiver.lean ====
section
/-! DEFINITION. The receiver, the receive FIFO and the handling of frames (7.5, 7.6), and the ends of block
writes, quiet timers and cancelled downloads that go on with the next HELD frame (R141, R143, R135). -/

namespace Sys2Proof.Machine

/-! ## Handling (R125, R126) -/

/-- R126: a RADIO_STATE frame. -/
def handleRadioState (b : List Byte) (s : State) : State :=
  s.withLink
    { s.link with
      connected := frameField b 8 1 != 0
      signal := if s.link.rail then min (frameField b 9 1) 100 else 0 }

/-- The payload length that a known kind requires (R125). -/
def lengthFits (kind len : Nat) : Bool :=
  if kind = 1 then len == 9
  else if kind = 2 then between 1 len 1024
  else if kind = 3 then len == 0
  else len == 2

/-- R125: the frame of a buffer is dispatched by its kind. -/
def dispatchFrame (b : List Byte) (s : State) : State :=
  let kind := frameKind b
  if !between 1 kind 4 then occur .unknownKind (frameDetail (headerItems b)) s
  else if !lengthFits kind (frameLength b) then occur .size (sizeDetail b 3) s
  else if kind = 1 then handleOpen b s
  else if kind = 2 then handleBlock b s
  else if kind = 3 then handleAbandon b s
  else handleRadioState b s

/-- R125: the oldest HELD frame is taken into HANDLING and handled. The handling ends in the event unless a
block write has begun. -/
def takeFrame (b : Fin 4) (s : State) : State :=
  let t := s.withLink { s.link with fifo := s.link.fifo.drop 1, handling := some b }
  let t := dispatchFrame s.link.buffers[b] t
  if (writingRecord t).isSome then t else endHandling t

/-- R125: HELD frames are taken one after another, at most `k` of them, while none is HANDLING. -/
def takeFramesUpTo : Nat → State → State
  | 0, s => s
  | k + 1, s =>
    match s.link.handling, s.link.fifo with
    | none, b :: _ => takeFramesUpTo k (takeFrame b s)
    | _, _ => s

/-- R125: HELD frames are taken; the FIFO holds four at most. -/
def takeFrames (s : State) : State := takeFramesUpTo 4 s

/-! ## The receiver (R120 to R123) -/

/-- The receiver enters a state; the escape flag is cleared (R120). -/
def enterRx (st : RxState) (s : State) : State :=
  s.withLink { s.link with receiver := { s.link.receiver with state := st, escape := false } }

/-- A collecting buffer becomes FREE and the receiver leaves FRAME. -/
def dropBuffer (b : Fin 4) (st : RxState) (s : State) : State :=
  let t := enterRx st s
  t.withLink { t.link with buffers := t.link.buffers.set b.1 [] b.2 }

/-- What a byte other than the delimiter is to the receiver in FRAME (R120, R122). -/
inductive ByteClass where
  | escape
  | data (d : Byte)
  | mismatch
  | overflow
deriving DecidableEq, Repr

/-- R122, step 3: the station filter. -/
def stationOk (l : Link) (d : Byte) : Bool :=
  !l.settings.filter || d == l.settings.station || d == 0xFF

/-- R120, R122: the class of a byte for the frame collected in a buffer. The station and the filter are those in
force at the deciding byte (log 41). -/
def classify (l : Link) (b : Fin 4) (x : Byte) : ByteClass :=
  if x = Config.escape ∧ ¬ l.receiver.escape then .escape
  else
    let d := if l.receiver.escape then x ^^^ 0x40 else x
    let len := l.buffers[b].length
    if Config.maxFrame ≤ len then .overflow
    else if len = 0 ∧ ¬ stationOk l d then .mismatch
    else .data d

/-- R122, step 2: a decoded byte is written, the CRC advanced. -/
def storeByte (b : Fin 4) (d : Byte) (s : State) : State :=
  s.withLink
    { s.link with
      receiver := { s.link.receiver with escape := false, crc := crc16Byte s.link.receiver.crc d }
      buffers := s.link.buffers.set b.1 (s.link.buffers[b] ++ [d]) b.2 }

/-- R122: a byte other than the delimiter in FRAME. -/
def frameByte (b : Fin 4) (x : Byte) (s : State) : State :=
  match classify s.link b x with
  | .escape => s.withLink { s.link with receiver := { s.link.receiver with escape := true } }
  | .data d => storeByte b d s
  | .mismatch => dropBuffer b (.discard .station) s
  | .overflow => occur .size (sizeDetail s.link.buffers[b] 1) (dropBuffer b (.discard .size) s)

/-- R121: the buffer becomes the collecting buffer, with decoded length 0 and the CRC preset. -/
def openBuffer (b : Fin 4) (s : State) : State :=
  s.withLink
    { s.link with
      receiver := ⟨.frame b, false, crc16Preset⟩
      buffers := s.link.buffers.set b.1 [] b.2 }

/-- The detail of OVERRUN (R129). -/
def overrunDetail (l : Link) : BitVec 128 :=
  frameDetail [(2, l.fifo.length), (1, if l.handling.isSome then 1 else 0)]

/-- R121: a byte other than a delimiter in IDLE. -/
def startFrame (x : Byte) (s : State) : State :=
  match freeBuffer s.link with
  | some b => frameByte b x (openBuffer b s)
  | none => occur .overrun (overrunDetail s.link) (enterRx (.discard .overrun) s)

/-- The frame of a collecting buffer is dropped at its close (R123). -/
def rejectFrame (b : Fin 4) (k : FaultKind) (detail : BitVec 128) (s : State) : State :=
  occur k detail (dropBuffer b .idle s)

/-- R123: a frame that passed the close checks becomes HELD. -/
def acceptFrame (b : Fin 4) (s : State) : State :=
  let t := enterRx .idle s
  takeFrames
    (t.withLink { t.link with fifo := t.link.fifo ++ [b], accepted := t.link.accepted + 1 })

/-- R123: the frame in a collecting buffer closes. -/
def closeFrame (b : Fin 4) (s : State) : State :=
  let bytes := s.link.buffers[b]
  if bytes.length < 10 then rejectFrame b .size (sizeDetail bytes 2) s
  else if crcReceived bytes ≠ crcComputed bytes then rejectFrame b .crc (crcDetail bytes) s
  else if frameLength bytes ≠ bytes.length - 10 then rejectFrame b .size (sizeDetail bytes 2) s
  else acceptFrame b s

/-- R122: an escape and a delimiter abort the frame. -/
def abortFrame (b : Fin 4) (s : State) : State :=
  occur .abort (abortDetail s.link.buffers[b]) (dropBuffer b .idle s)

/-! ## The link events of the table -/

/-- R121: a delimiter in HUNT. -/
def huntDelimiter (s : State) : State :=
  if s.link.rail && s.link.receiver.state == .hunt then enterRx .idle s else s

/-- R122: a delimiter in DISCARD. -/
def discardDelimiter (s : State) : State :=
  match s.link.receiver.state with
  | .discard _ => if s.link.rail then enterRx .idle s else s
  | .hunt | .idle | .frame _ => s

/-- R121: a frame start. -/
def receiveStart (x : Byte) (s : State) : State :=
  if s.link.rail && s.link.receiver.state == .idle then startFrame x s else s

/-- R122: a byte in FRAME that is of the class its row names. -/
def receiveIn (wanted : ByteClass → Bool) (x : Byte) (s : State) : State :=
  match s.link.receiver.state with
  | .frame b => if s.link.rail && wanted (classify s.link b x) then frameByte b x s else s
  | .hunt | .idle | .discard _ => s

/-- A byte that decodes or sets the escape flag. -/
def ByteClass.isData : ByteClass → Bool
  | .escape | .data _ => true
  | .mismatch | .overflow => false

/-- A byte that decodes to a wrong station. -/
def ByteClass.isMismatch : ByteClass → Bool
  | .mismatch => true
  | .escape | .data _ | .overflow => false

/-- A byte that decodes to the 1035th byte. -/
def ByteClass.isOverflow : ByteClass → Bool
  | .overflow => true
  | .escape | .data _ | .mismatch => false

/-- R122, R123: a delimiter in FRAME with the escape flag as the row says. -/
def receiveDelimiter (escaped : Bool) (s : State) : State :=
  match s.link.receiver.state with
  | .frame b =>
    if s.link.rail && s.link.receiver.escape == escaped then
      if escaped then abortFrame b s else closeFrame b s
    else s
  | .hunt | .idle | .discard _ => s

/-! ## Block write completion, stalls and cancels -/

/-- R141: the block write completion event. -/
def completeBlockWrite (s : State) : State :=
  match writingRecord s with
  | none => s
  | some r =>
    let t := copyBlock Config.maxFrame s
    match (parcelOf t r).write with
    | none => s
    | some w => verifyWhenFull r (takeFrames (endHandling (countBlock r w.block t)))

/-- R143: the expiry of a record's quiet timer. DESIGN CHOICE (log 43): a stall that stops a block write ends that
frame's handling (R141, R125), and the next HELD frame is taken after the STALLED occurrence. -/
def quietExpiry (r : Fin 8) (s : State) : State := takeFrames (expireQuiet r s)

/-- R135: Cancel parcel. -/
def takeCancelParcel (o : ReqRef) (ops : Operands) (s : State) : State :=
  let found := recordOf s (opHalf ops 0)
  let detail := cancelParcelDetail s found
  match found with
  | none => writeOutcome o .refused .range detail s
  | some r =>
    match (parcelOf s r).state with
    | .armed | .filling | .verifying =>
      finish o detail (takeFrames (raise .parcel (failRecord r .cancelled s)))
    | .complete | .failed | .free => writeOutcome o .refused .tooLate detail s

/-! ## The rail (R118, R119) -/

/-- R119: a rail-off, steps 1 and 3 to 7. -/
def railOffLink (l : Link) : Link :=
  { l with
    rail := false
    connected := false
    signal := 0
    receiver := { l.receiver with state := .hunt, escape := false }
    buffers := Vector.ofFn fun b => if l.handling = some b then l.buffers[b] else []
    fifo := []
    outbound := []
    sending := none
    sent := 0
    line := none
    parcels := l.parcels.map fun p => { p with quiet := p.quiet.pause } }

/-- R119: a rail-off. The release of the radio claim is a scan event. -/
def railOff (s : State) : State :=
  releasedScan ((s.withLink (railOffLink s.link)).withPower { s.power with radioClaim := 0 })

/-- R118: the rail goes ON with a granted claim. -/
def railOn (claim : Nat) (s : State) : State :=
  pushGrant
    ((s.withLink
      { s.link with
        rail := true
        connected := false
        signal := 0
        receiver := { s.link.receiver with state := .hunt, escape := false }
        parcels := s.link.parcels.map fun p => { p with quiet := p.quiet.resume } }).withPower
      { s.power with radioClaim := claim })

/-- The detail of Radio on and of Radio off (R118): the two flags already on and already off are bits 0 and
1 of the flags byte (log 18). -/
def radioDetail (s : State) (flags claim : Nat) : BitVec 112 :=
  outcomeDetail [(1, flags), (1, 0), (2, claim), (2, s.power.budget), (2, committed s)]

/-- R118: Radio on. -/
def takeRadioOn (o : ReqRef) (s : State) : State :=
  let c := s.link.settings.current
  if s.link.rail then finish o (radioDetail s 1 0) s
  else if claimFits s c then
    let t := railOn c s
    finish o (radioDetail t 0 c) t
  else writeOutcome o .refused .noBudget (radioDetail s 0 c) s

/-- R119: Radio off. -/
def takeRadioOff (o : ReqRef) (s : State) : State :=
  if s.link.rail then
    let t := railOff s
    finish o (radioDetail t 0 s.power.radioClaim) t
  else finish o (radioDetail s 2 0) s

/-- R116, R117: Configure link. -/
def takeConfigureLink (o : ReqRef) (ops : Operands) (s : State) : State :=
  let a := (opWord ops 0).toNat
  if !inHostArea a 16 then refuse o .protectedArea s
  else
    let r := s.mem.readBytes a 16
    match checkLinkRecord r with
    | .none => finish o 0 (s.withLink { s.link with settings := linkRecord r })
    | reason => refuse o reason s

end Sys2Proof.Machine
end

