-- ==== Sys2Proof/Machine/Gauge.lean ====
section
/-! DEFINITION. The coulomb gauge, BATTERY_LOW, the budget, Configure power and Set charge (9.2 to 9.5). -/

namespace Sys2Proof.Machine

/-! ## SOC and BATTERY_LOW (R159) -/

/-- R159: the state of charge in per mille. -/
def socOf (qr qfull : Nat) : Nat := if qfull = 0 then 0 else qr * 1000 / qfull

/-- SOC recomputed from Qr and Qfull. -/
def Gauge.refresh (g : Gauge) : Gauge := { g with soc := socOf g.qr g.qfull }

/-- R22: BATTERY_LOW with its hysteresis of 20 per mille. -/
def lowAfter (was : Bool) (soc threshold : Nat) : Bool :=
  if was then !decide (threshold + 20 ≤ soc) else decide (soc < threshold)

/-- R159: BATTERY_LOW is re-evaluated, unless the gauge is uncalibrated; a change raises BATTERY. -/
def evaluateLow (s : State) : State :=
  let p := s.power
  if p.gauge.calibrated then
    let low := lowAfter p.batteryLow p.gauge.soc p.settings.lowThreshold
    if low = p.batteryLow then s else raise .battery (s.withPower { p with batteryLow := low })
  else s

/-- The gauge replaced. -/
def State.withGauge (s : State) (g : Gauge) : State := s.withPower { s.power with gauge := g }

/-- SOC recomputed and BATTERY_LOW re-evaluated. -/
def evaluateGauge (s : State) : State := evaluateLow (s.withGauge s.power.gauge.refresh)

/-! ## Charging and corrections (R156 to R158) -/

/-- The detail of GAUGE_CLAMP: the unclamped result, the end clamped to, Ib and P (R156). -/
def clampDetail (v : Int) (c : Clamp) (ib : Int) (period : Nat) : BitVec 128 :=
  frameDetail [signedItem 8 v, (1, c.code), signedItem 2 ib, (2, period)]

/-- R156: the gauge clamped at an end. -/
def clampGauge (q : Nat) (c : Clamp) (v : Int) (period : Nat) (s : State) : State :=
  let t := s.withGauge { s.power.gauge with qr := q, clamp := c }
  if s.power.gauge.clamp = c then t else occur .gaugeClamp (clampDetail v c s.power.ib period) t

/-- R156: the gauge is charged with the current of a period. -/
def chargeGauge (period : Nat) (s : State) : State :=
  let g := s.power.gauge
  if g.qfull = 0 then s
  else
    let v : Int := g.qr - s.power.ib * period
    if v < 0 then clampGauge 0 .atEmpty v period s
    else if (g.qfull : Int) < v then clampGauge g.qfull .atFull v period s
    else s.withGauge { g with qr := v.toNat, clamp := .none }

/-- R157, R158: a correction sets Qr. -/
def correctGauge (q : Nat) (s : State) : State :=
  if s.power.gauge.qfull = 0 then s
  else
    evaluateGauge (s.withGauge { s.power.gauge with qr := q, clamp := .none, calibrated := true })

/-- R157: the charge-done correction. -/
def chargeDone (s : State) : State := correctGauge s.power.gauge.qfull s

/-- R157: the empty correction of a measurement. -/
def emptyCorrection (s : State) : State :=
  if s.power.vb < s.power.settings.vempty ∧ s.power.ib.natAbs < 50 then correctGauge 0 s else s

/-- The detail of a Set charge (R158). -/
def setChargeDetail (before after : Gauge) : BitVec 112 :=
  outcomeDetail [(2, before.soc), (2, after.soc), (1, if before.calibrated then 1 else 0), (1, 0), (8, after.qr)]

/-- R158: Set charge. -/
def takeSetCharge (o : ReqRef) (ops : Operands) (s : State) : State :=
  let v := (opHalf ops 0).toNat
  if 1000 < v ∨ s.power.settings.capacity = 0 then refuse o .range s
  else
    let t := correctGauge (s.power.gauge.qfull * v / 1000) s
    finish o (setChargeDetail s.power.gauge t.power.gauge) t

/-! ## Configure power (R154, R155) -/

/-- R155: the gauge after a change of capacity. -/
def Gauge.resize (g : Gauge) (capacity : Nat) : Gauge :=
  let full := capacity * 3600000
  ({ g with qfull := full, qr := full * g.soc / 1000 } : Gauge).refresh

/-- R155: every power setting replaced, with the actions of what changed. -/
def applyPower (n : PowerSettings) (s : State) : State :=
  let old := s.power.settings
  let t := s.withPower { s.power with settings := n }
  let t := if n.capacity ≠ old.capacity then t.withGauge (s.power.gauge.resize n.capacity) else t
  if n.capacity ≠ old.capacity ∨ n.lowThreshold ≠ old.lowThreshold then evaluateLow t else t

/-- R154, R155: Configure power. -/
def takeConfigurePower (o : ReqRef) (ops : Operands) (s : State) : State :=
  let a := (opWord ops 0).toNat
  if !inHostArea a 48 then refuse o .protectedArea s
  else
    let r := s.mem.readBytes a 48
    match checkPowerRecord r with
    | .none => finish o 0 (applyPower (powerRecord r) s)
    | reason => refuse o reason s

/-! ## The budget (R160) -/

/-- R160: the battery-hot state with its hysteresis of 3 degrees. -/
def hotAfter (was : Bool) (temp : Int) (limit : Nat) : Bool :=
  if (limit : Int) ≤ temp then true else if temp ≤ (limit : Int) - 3 then false else was

/-- R160, step 1; the division rounds toward minus infinity. -/
def openVoltage (vb ib : Int) (r : Nat) : Int := vb + ib * r / 1000

/-- R160, step 2. -/
def headroom (vopen : Int) (vfloor r : Nat) : Nat :=
  if vopen ≤ vfloor then 0 else ((vopen - vfloor) * 1000 / r).toNat

/-- R160, step 3. -/
def effectiveLimit (imax : Nat) (hot : Bool) : Nat := if hot then imax / 2 else imax

/-- R160, step 4. -/
def budgetOf (h imaxEff reserve : Nat) : Nat := min h imaxEff - reserve

/-- The detail of BATTERY_HOT (R160). DEDUCED (log 51): R190 gives a temperature two bytes and names no limit; the
hot limit is taken as a temperature, of two bytes. -/
def hotDetail (p : Power) : BitVec 128 :=
  frameDetail [signedItem 2 p.batteryTemp, (2, p.settings.hotLimit), (2, p.imaxEff)]

/-- R160: the power engine with hot state and budget computed from its last readings. -/
def Power.compute (p : Power) : Power :=
  let hot := hotAfter p.hot p.batteryTemp p.settings.hotLimit
  let vopen := openVoltage p.vb p.ib p.settings.resistance
  let h := headroom vopen p.settings.vfloor p.settings.resistance
  let lim := effectiveLimit p.settings.imax hot
  { p with hot := hot, vopen := vopen, h := h, imaxEff := lim, budget := budgetOf h lim p.settings.reserve }

/-- R160: hot state and budget; a change to hot is an occurrence of BATTERY_HOT. -/
def computeBudget (s : State) : State :=
  let t := s.withPower s.power.compute
  if t.power.hot ∧ ¬ s.power.hot then occur .batteryHot (hotDetail t.power) t else t

end Sys2Proof.Machine
end

