-- ==== Sys2Proof/Machine/SleepEntry.lean ====
section
/-! DEFINITION. Doze, sleep entry with its three steps, entry to SLEEP, and the requests Sleep and Cancel
sleep from step 4 of R27 on (10.1 to 10.4). -/

namespace Sys2Proof.Machine

/-- R168: Doze. -/
def takeDoze (o : ReqRef) (s : State) : State :=
  match s.power.state with
  | .run => finish o (outcomeDetail [(1, 0)]) (s.withPower { s.power with state := .doze })
  | .doze => finish o (outcomeDetail [(1, 1)]) s
  | .sleepPending | .sleep => refuse o .busy s

/-! ## The start of sleep entry (R170, R171, R176) -/

/-- Records failed SLEPT within a sleep entry are counted for its detail (R173), and the next HELD frame is
taken when a handling ended (R141), after every record has failed (log 43). -/
def failSleptCounted (states : List ParcelState) (s : State) : State :=
  let n := countIn states s
  let t := takeFrames (failSlept states s)
  t.withSleep { t.power.sleep with slept := t.power.sleep.slept + n }

/-- R171: the download hold timer expires. -/
def expireHold (s : State) : State :=
  failSleptCounted [.filling] (s.withSleep { s.power.sleep with hold := .expired })

/-- R170: sleep entry begins: the state, the return state, the sleep record, the step DRAINING with the
download hold timer. A hold of 0 expires in the event (R171). DESIGN CHOICE (log 53): the image flag of the entry is
NONE from here until R172 decides it; R181 shows the flag of the entry in progress, which has none yet. -/
def beginSleep (rec : SleepRec) (s : State) : State :=
  let left := s.power.settings.downloadHold * 1000
  let t := s.withPower
    { s.power with
      state := .sleepPending
      returnState := s.power.state
      sleep :=
        { s.power.sleep with
          record := some rec
          step := some .draining
          hold := .running left
          image := .absent
          imageFlag := .none
          imageLane := none
          imageMode := rec.mode
          started := false
          slept := 0 } }
  if left = 0 then expireHold t else t

/-- R170, R172, R176: every byte of a full-panel image lies in the host area. -/
def sleepImageOk (s : State) (image : Word) : Bool :=
  inHostArea image.toNat (imageBytes s.panel.settings)

/-- The sleep record that the operands of a Sleep give (R170, 12.2). -/
def sleepOperands (o : ReqRef) (ops : Operands) : SleepRec where
  origin := .request o
  image := opWord ops 0
  mode := (modeOf (opByte ops 4).toNat).getD .settle
  wakeSet := (opByte ops 5).setWidth 5
  timer := (opHalf ops 6).toNat

/-- R170, step 2: the mode is 0 to 3, and the TIMER flag is set if and only if the wake timer is not 0. -/
def sleepRangeOk (ops : Operands) : Bool :=
  decide ((opByte ops 4).toNat < 4) && ((opByte ops 5).getLsbD 4 == (opHalf ops 6 != 0))

/-- The power state is RUN or DOZE. -/
def awakeState (s : State) : Bool := s.power.state == .run || s.power.state == .doze

/-- R170: Sleep. -/
def takeSleep (o : ReqRef) (ops : Operands) (s : State) : State :=
  if !awakeState s then refuse o .busy s
  else if !sleepRangeOk ops then refuse o .range s
  else if opWord ops 0 ≠ 0 ∧ ¬ sleepImageOk s (opWord ops 0) then refuse o .protectedArea s
  else beginSleep (sleepOperands o ops) (writeOutcome o .queued .none 0 s)

/-- R174: Cancel sleep. -/
def takeCancelSleep (o : ReqRef) (s : State) : State :=
  if s.power.state = .sleepPending then
    finish o (outcomeDetail [(1, stepCode s.power.sleep.step)]) (abortSleep .cancel s)
  else refuse o .tooLate s

/-- The cover result replaced. -/
def setCover (c : CoverResult) (s : State) : State := s.withSleep { s.power.sleep with cover := c }

/-- The sleep record of a cover sleep (R176). -/
def coverRecord (p : PowerSettings) : SleepRec := ⟨.cover, p.coverImage, p.coverMode, p.coverWake, 0⟩

/-- R176: a cover close. -/
def coverClose (s : State) : State :=
  if s.power.settings.coverSleep then
    if awakeState s then
      if s.power.settings.coverImage = 0 ∨ sleepImageOk s s.power.settings.coverImage then
        setCover .started (beginSleep (coverRecord s.power.settings) s)
      else setCover .refusedImage s
    else setCover .refusedState s
  else s

/-! ## The ends of the steps (R171 to R173) -/

/-- A waveform load, a verify or an unexpired download keeps DRAINING waiting (R171). -/
def downloadsRest (s : State) : Bool :=
  countIn [.verifying] s == 0 && (countIn [.filling] s == 0 || s.power.sleep.hold == .expired)

/-- R171: the five conditions that end DRAINING hold together. -/
def drainingRests (s : State) : Bool :=
  allLanesFree s.panel && s.panel.queue.isEmpty && downloadsRest s && !s.panel.setState.isLoading

/-- The power state is SLEEP_PENDING at a step. -/
def atStep (st : SleepStep) (s : State) : Bool :=
  s.power.state == .sleepPending && s.power.sleep.step == some st

/-- DRAINING has come to its end. -/
def drainingOver (s : State) : Bool := atStep .draining s && drainingRests s

/-- IMAGING has come to its end. -/
def imagingOver (s : State) : Bool := atStep .imaging s && s.power.sleep.image == .over

/-- DARKENING has come to its end: the light engine reports both present duties 0 (R111, R173). -/
def darkeningOver (s : State) : Bool := atStep .darkening s && s.light.pw == 0 && s.light.pc == 0

/-- R172: IMAGING ends in its own event with an image flag. -/
def skipImage (flag : ImageFlag) (s : State) : State :=
  s.withSleep { s.power.sleep with image := .over, imageFlag := flag }

/-- R172: the sleep image entry. -/
def sleepEntry (s : State) (rec : SleepRec) : Entry where
  origin := .sleep (sleepRef s)
  rect := fullPanel s.panel.settings
  image := rec.image
  stride := s.panel.settings.width / 2
  mode := rec.mode
  promoted := false
  clipped := false
  hold := .none
  clock := none
  counted := false

/-- R172: what the start of IMAGING does with the image of the sleep record. -/
def startImage (rec : SleepRec) (s : State) : State :=
  if rec.image = 0 then skipImage .none s
  else if s.panel.setState.isAbsent || !sleepImageOk s rec.image then skipImage .skipped s
  else addEntry (sleepEntry s rec) (s.withSleep { s.power.sleep with image := .queued })

/-- R171, R172: DRAINING ends and IMAGING begins. -/
def startImaging (s : State) : State :=
  let t := s.withSleep { s.power.sleep with step := some .imaging, hold := .stopped }
  match s.power.sleep.record with
  | some rec => startImage rec t
  | none => skipImage .none t

/-- R172: a Sleep outcome still QUEUED at the end of IMAGING is written STARTED (log 18). -/
def startSleepOutcome (s : State) : State :=
  if s.power.sleep.started then s
  else
    let t := writeSleep .started .none 0 s
    t.withSleep { t.power.sleep with started := true }

/-- R172, R173: IMAGING ends and DARKENING begins: the rail off, the dark hold, the downloads failed. The
grant push of the rail-off comes before the dark hold, so that the ramp lowers the light (log 31). -/
def startDarkening (s : State) : State :=
  let t := startSleepOutcome s
  let t := t.withSleep { t.power.sleep with step := some .darkening, image := .absent }
  let t := if t.link.rail then railOff t else t
  failSleptCounted [.filling, .verifying] (beginDark t)

/-- The detail of a Sleep that is DONE (R173). -/
def sleepDetail (s : State) : BitVec 112 :=
  let p := s.power.sleep
  outcomeDetail [(1, p.imageFlag.code), (1, (p.imageLane.map Fin.val).getD 255), (1, p.imageMode.code),
    (1, p.slept), (1, s.power.returnState.code)]

/-- R104, R106, R152: entry to SLEEP stops the ramp clock, drops a sample and reschedules the measurement
clock. -/
def enterSleep (s : State) : State :=
  let t := s.withPower { s.power with state := .sleep, nextMeasure := 4000 }
  t.withLight { t.light with ramp := none, sample := none, sampleClock := none }

/-- The TIMER flag of a wake set. -/
def hasTimer (w : BitVec 5) : Bool := w.getLsbD 4

/-- R173: the wake timer that a sleep record starts. -/
def startTimer (r : Option SleepRec) : Option Nat :=
  match r with
  | some rec => if hasTimer rec.wakeSet then some (rec.timer * 1000) else none
  | none => none

/-- R173: DARKENING ends and the part enters SLEEP. A reader's hold that the DONE ends stands until the wake (log
34). -/
def endDarkening (s : State) : State :=
  let t := writeSleep .done .none (sleepDetail s) s
  enterSleep
    (t.withSleep
      { t.power.sleep with
        step := none
        hold := .stopped
        doneFlag := t.power.sleep.imageFlag
        wakeTimer := startTimer t.power.sleep.record })

end Sys2Proof.Machine
end

