-- ==== Sys2Proof/Machine/Wake.lean ====
section
/-! DEFINITION. Measurements and brownout (9.1, 9.6), the wake event, presses, the input monitor and
Acknowledge inputs (10.5, 10.6). -/

namespace Sys2Proof.Machine

/-! ## Wake (R177, R178) -/

/-- The wake set in force: the sleep record's (10.1). -/
def wakeSet (s : State) : BitVec 5 :=
  match s.power.sleep.record with
  | some rec => rec.wakeSet
  | none => 0

/-- R177: the wake set allows a wake from the source with the given flag, and the mark is clear. -/
def mayWake (s : State) (bit : Nat) : Bool :=
  s.asleep && !s.power.mark && (wakeSet s).getLsbD bit

/-- R178, steps 1 to 6 for the power engine's own state; `notice` says that a NOTICE read is the cause. -/
def wakePower (p : Power) (cause : WakeCause) (notice : Bool) : Power :=
  { p with
    state := if p.settings.wakeToDoze && !notice then .doze else .run
    mark := if cause = .charger then false else p.mark
    nextMeasure := 250
    sleep :=
      { p.sleep with
        record := none
        wakeTimer := none
        lastWake := cause
        wakeCount := p.sleep.wakeCount + 1 } }

/-- R178: the wake event of the power engine. Page memory leaves self-refresh, and the status-block writes held in
SLEEP are made (R165, R177); an event that wakes the part and enters SLEEP again holds them anew (R8). -/
def wake (cause : WakeCause) (notice : Bool) (s : State) : State :=
  let t := (s.withPower (wakePower s.power cause notice)).withHeld none
  let t := t.withLight { t.light with sampleClock := some 500 }
  pulse (raise .wake (endDark t))

/-! ## Brownout (R164, R165) -/

/-- The detail of BROWNOUT (R164). -/
def brownoutDetail (s : State) (before : PowerState) : BitVec 128 :=
  frameDetail [signedItem 2 s.power.vb, signedItem 2 s.power.ib, (2, s.power.settings.vcut), (1, before.code)]

/-- R164, step 6. -/
def postBrownout (s : State) : State :=
  occurNonmaskable .brownout none (brownoutDetail s s.power.state) s

/-- R164, step 2: the dark hold begins with both present duties cut to 0. -/
def cutDark (s : State) : State :=
  let t := beginDark s
  t.withLight { t.light with pw := 0, pc := 0 }

/-- R164, step 5: a sleep entry ends with its outcome FAILED HALTED, with a zero detail (log 44). -/
def haltSleep (s : State) : State :=
  if s.power.state = .sleepPending then writeSleep .failed .halted 0 s else s

/-- The wake set that brownout gives: BUTTON and CHARGER_CHANGE (R177). -/
def brownoutWakeSet : BitVec 5 := 0b00101

/-- R164, step 8: SLEEP with the brownout mark. -/
def brownoutSleep (s : State) : State :=
  enterSleep
    (s.withPower
      { s.power with
        mark := true
        sleep :=
          { s.power.sleep with
            record := some ⟨.none, 0, .settle, brownoutWakeSet, 0⟩
            step := none
            hold := .stopped
            image := .absent
            wakeTimer := none } })

/-- A reader that is admitted to a place of the queue: its QUEUE_ROOM hold ends (R12). -/
def Reader.endRoomHold (r : Reader) : Reader :=
  if r.state = .handing ∧ r.hold = .queueRoom then { r with hold := .none } else r

/-- R13, R164: the places that a brownout's halt has freed are given after step 8. The halt leaves all 32 places
free and no held turn, so every reader that holds with QUEUE_ROOM is admitted; it waits with its hand-over until
the next wake (R19). -/
def admitReaders (s : State) : State := s.withReaders (s.readers.map Reader.endRoomHold)

/-- R164: the brownout actions, and the places given after them. -/
def brownout (s : State) : State :=
  let t := cutDark (halt s)
  let t := if t.link.rail then railOff t else t
  let t := takeFrames (failSlept [.filling, .verifying] t)
  let t := postBrownout (haltSleep t)
  admitReaders (brownoutSleep (pushGrant (t.withPower { t.power with shortfall := false })))

/-- R165: a measurement in SLEEP acts on the brownout mark. -/
def sleepMark (s : State) : State :=
  let p := s.power
  if p.mark then
    if (p.settings.vcut : Int) + 200 ≤ p.vb then s.withPower { p with mark := false } else s
  else if p.vb < p.settings.vcut then
    let t := postBrownout s
    t.withPower { t.power with mark := true, sleep := { t.power.sleep with wakeTimer := none } }
  else s

/-! ## The measurement event (R152, R153) -/

/-- A reading brought into its range (R152). -/
def clampInt (lo v hi : Int) : Int := max lo (min v hi)

/-- R153, step 1, for the power engine. -/
def Power.readings (p : Power) (vb ib batteryTemp panelTemp : Int) : Power :=
  { p with
    vb := clampInt 0 vb 5000
    ib := clampInt (-4000) ib 4000
    batteryTemp := clampInt (-40) batteryTemp 85
    panelTemp := clampInt (-40) panelTemp 85 }

/-- R152: the period a measurement charges the gauge with. -/
def measurePeriod (s : State) : Nat := if s.asleep then 4000 else 250

/-- R153, steps 1 to 4. -/
def measureReadings (vb ib batteryTemp panelTemp : Int) (s : State) : State :=
  let t := s.withPower (s.power.readings vb ib batteryTemp panelTemp)
  let t := temperatureArrival t.power.panelTemp t
  let t := emptyCorrection (chargeGauge (measurePeriod s) t)
  computeBudget (evaluateGauge t)

/-- R153, step 6: shortfall, light grant and start scan. -/
def measureGrants (s : State) : State := scan (pushGrant (noteShortfall s))

/-- R152, R166: the measurement is counted and the next one scheduled. -/
def countMeasurement (s : State) : State :=
  s.withPower
    { s.power with measurements := s.power.measurements + 1, nextMeasure := measurePeriod s }

/-- R153: a measurement event. In SLEEP the grant is pushed in every case (log 15). A brownout runs no start scan,
also where the same measurement ends the range refusal (R51, R61): its halt empties the queue first (log 49). -/
def measure (vb ib batteryTemp panelTemp : Int) (s : State) : State :=
  let t := countMeasurement (measureReadings vb ib batteryTemp panelTemp s)
  if s.asleep then measureGrants (sleepMark t)
  else if t.power.vb < t.power.settings.vcut then brownout t
  else measureGrants t

/-! ## Presses and the other inputs (R94, R176, R177, R179) -/

/-- R94: a press. -/
def press (d : Dir) (s : State) : State :=
  match s.power.state with
  | .run | .doze => buttonTurn d none s
  | .sleepPending => abortSleep .press s
  | .sleep => if mayWake s 0 then wakePress d (wake .button false s) else s

/-- The sleep entry in progress has origin COVER. -/
def coverOrigin (s : State) : Bool :=
  match s.power.sleep.record with
  | some ⟨.cover, _, _, _, _⟩ => true
  | _ => false

/-- R174, R176, R177: a cover open. -/
def coverOpen (s : State) : State :=
  if mayWake s 1 then wake .coverOpen false s
  else if s.power.state = .sleepPending ∧ coverOrigin s then abortSleep .coverOpen s
  else s

/-- R177: a debounced change of CHARGER. -/
def chargerChange (level : Bool) (s : State) : State :=
  if s.asleep && s.power.mark then if level then wake .charger false s else s
  else if mayWake s 2 then wake .chargerChange false s
  else s

/-- R179, step 1: a debounced change is delivered to its user. -/
def deliverInput (i : Input) (level : Bool) (s : State) : State :=
  match i with
  | .next => if level then press .next s else s
  | .prev => if level then press .prev s else s
  | .cover => if level then coverClose s else coverOpen s
  | .charger => chargerChange level s
  | .chargeDone => if level then chargeDone s else s
  | .radioWake => if level ∧ mayWake s 3 then wake .radioWake false s else s

/-- The input monitor replaced. -/
def State.withInputs (s : State) (v : Inputs) : State := s.withPower { s.power with inputs := v }

/-- R180: the snapshot latch at a debounced change. -/
def latchInputs (s : State) : State :=
  let m := s.power.inputs
  if m.closed then s
  else raise .input (s.withInputs { m with snapshot := m.debounced, closed := true })

/-- A level set in a set of the six. -/
def setLevel (v : BitVec 6) (i : Fin 6) (level : Bool) : BitVec 6 :=
  if level then v ||| (1#6 <<< i.1) else v &&& ~~~(1#6 <<< i.1)

/-- R179: a raw change starts the input's 20 ms debounce timer, or starts it again. -/
def rawChange (i : Input) (level : Bool) (s : State) : State :=
  let m := s.power.inputs
  let k := inputBit i
  if m.raw.getLsbD k.1 = level then s
  else s.withInputs { m with raw := setLevel m.raw k level, timers := m.timers.set k.1 (some 20) k.2 }

/-- R179: a debounced change event of an input. -/
def debouncedChange (i : Input) (s : State) : State :=
  let m := s.power.inputs
  let k := inputBit i
  let level := m.raw.getLsbD k.1
  let t := s.withInputs { m with debounced := setLevel m.debounced k level, timers := m.timers.set k.1 none k.2 }
  latchInputs (deliverInput i level t)

/-- R179: a debounce timer expires. -/
def debounceExpiry (i : Input) (s : State) : State :=
  let m := s.power.inputs
  let k := inputBit i
  if m.timers[k].isNone then s
  else if m.raw.getLsbD k.1 = m.debounced.getLsbD k.1 then
    s.withInputs { m with timers := m.timers.set k.1 none k.2 }
  else debouncedChange i s

/-- R180: Acknowledge inputs. Each of the two level bytes of the detail is one byte, as in the status record
(log 50). -/
def takeAcknowledge (o : ReqRef) (s : State) : State :=
  let m := s.power.inputs
  finish o (outcomeDetail [(1, m.snapshot.toNat), (1, m.debounced.toNat)])
    (s.withInputs { m with snapshot := m.debounced, closed := false })

/-- R177: the wake timer expires. -/
def wakeTimerExpiry (s : State) : State :=
  if s.asleep && s.power.sleep.wakeTimer.isSome then wake .timer false s else s

/-- R169: a wake pulse ends. -/
def endPulse (s : State) : State := s.withWakePulse none

end Sys2Proof.Machine
end

