-- ==== Sys2Proof/Machine/Requests.lean ====
section
/-! DEFINITION. The checks of R27 on a slot that an engine takes, the Test, Set conditions and Clear faults
requests (2.4, 2.5, R186), and what each defined request does. -/

namespace Sys2Proof.Machine

/-! ## Step 1: a posted fault (R185) -/

/-- The detail of a POSTED_FAULT refusal (R185). -/
def postedDetail (e : Engine) (f : FaultState) : BitVec 112 :=
  outcomeDetail [(1, engineCode e), (1, kindCode f.posted), (2, f.accrued.toNat),
    (1, if f.frame.origin.isSome then 1 else 0)]

/-- R185: the slot is refused POSTED_FAULT and the posted place becomes empty. -/
def refusePosted (e : Engine) (o : ReqRef) (s : State) : State :=
  let f := faultOf s e
  writeOutcome o .refused .postedFault (postedDetail e f) (s.withFault e { f with posted := none })

/-! ## Step 3: the power state (R171) -/

/-- R27, step 3: the request is refused SLEEPING in the present power state. -/
def sleepingRefusal (s : State) : RequestName → Bool
  | .updateRegion | .showSlot | .turn | .stagePage | .loadWaveformSet | .setLight | .armParcel =>
    s.power.state == .sleepPending
  | .radioOn => atStep .darkening s
  | _ => false

/-! ## Test (R28 to R32) -/

/-- Relations of a Test. -/
inductive Relation where
  | lt | ge | eq | ne
deriving DecidableEq, Repr

/-- The relation of a code (2.4). -/
def relationOf (n : Nat) : Option Relation :=
  if n = 0 then some .lt else if n = 1 then some .ge else if n = 2 then some .eq
  else if n = 3 then some .ne else none

/-- R29: the relation of the sampled value to the operand value, as signed integers. -/
def Relation.holds (r : Relation) (x v : Int) : Bool :=
  match r with
  | .lt => decide (x < v)
  | .ge => decide (v ≤ x)
  | .eq => x == v
  | .ne => x != v

/-- Kinds of a Test. -/
inductive TestKind where
  | plain | clearing | and | or
deriving DecidableEq, Repr

/-- The kind of a code (2.4). -/
def testKindOf (n : Nat) : Option TestKind :=
  if n = 0 then some .plain else if n = 1 then some .clearing else if n = 2 then some .and
  else if n = 3 then some .or else none

/-- The band index a Test samples: -1 while the set is not VALID (R31). -/
def bandSample (p : Panel) : Int :=
  if p.setState.isValid then (p.band.map Int.ofNat).getD (-1) else -1

/-- The number of FREE lanes. -/
def freeLanes (p : Panel) : Nat := (p.lanes.toList.filter Lane.isFree).length

/-- R31: the value that an engine's selector samples, for a parcel number. -/
def sample (s : State) (e : Engine) (sel : Nat) (parcel : Half) : Option Int :=
  match e, sel with
  | .panel, 0 => some (freeLanes s.panel)
  | .panel, 1 => some s.panel.queue.length
  | .panel, 2 => some s.panel.ring.ahead
  | .panel, 3 => some (bandSample s.panel)
  | .panel, 4 => some s.panel.setState.code
  | .light, 0 => some s.light.level
  | .light, 1 => some s.light.lux
  | .link, 0 => some s.link.signal
  | .link, 1 => some (((recordOf s parcel).map fun r => (parcelOf s r).state.code).getD 0)
  | .link, 2 => some (((recordOf s parcel).map fun r => (parcelOf s r).received).getD 0)
  | .power, 0 => some s.power.gauge.soc
  | .power, 1 => some s.power.vb
  | .power, 2 => some s.power.batteryTemp
  | .power, 3 => some s.power.budget
  | _, _ => none

/-- A target of 1 to 7 (R28). -/
def fixedTarget (p : Nat) : Bool := between 1 p 7

/-- R28: the checks on the two targets; NONE when they pass. The 1 to 7 test of both targets comes before the
range test of either (log 38). -/
def checkTargets (k : TestKind) (p1 p2 : Nat) : Reason :=
  if fixedTarget p1 || fixedTarget p2 then .illegal
  else if 15 < p1 ∨ 15 < p2 then .range
  else if (k = .plain ∨ k = .clearing) ∧ p1 = p2 ∧ p1 ≠ 0 then .illegal
  else .none

/-- R29: the writes of a kind for a result. -/
def testWrites (k : TestKind) (p1 p2 : Nat) (result : Bool) (s : State) : State :=
  match k with
  | .plain | .clearing => writeUser p2 (!result) (writeUser p1 result s)
  | .and => if result then s else writeUser p2 false (writeUser p1 false s)
  | .or => if result then writeUser p2 true (writeUser p1 true s) else s

/-- The detail of a Test that is DONE (R32). -/
def testDetail (x : Int) (result : Nat) (qual : Bool) (s : State) : BitVec 112 :=
  outcomeDetail [signedItem 4 x, (1, result), (1, if qual then 1 else 0), (1, (userConditions s).toNat)]

/-- R29, R30: a Test whose operands passed the checks. -/
def runTest (o : ReqRef) (qual : Bool) (k : TestKind) (r : Relation) (x v : Int) (p1 p2 : Nat)
    (s : State) : State :=
  if qual then
    let result := r.holds x v
    let t := testWrites k p1 p2 result s
    finish o (testDetail x (if result then 1 else 0) true t) t
  else
    let t := writeUser p2 false (writeUser p1 false s)
    finish o (testDetail 0 2 false t) t

/-- R28 to R30: Test, taken with the qualifier value read. -/
def takeTest (e : Engine) (o : ReqRef) (qual : Bool) (ops : Operands) (s : State) : State :=
  match sample s e (opByte ops 0).toNat (opHalf ops 6), relationOf (opByte ops 1).toNat,
      testKindOf (opByte ops 2).toNat with
  | some x, some r, some k =>
    let p1 := (opByte ops 3).toNat
    let p2 := (opByte ops 4).toNat
    match checkTargets k p1 p2 with
    | .none => runTest o qual k r x (opWord ops 8).toInt p1 p2 s
    | reason => refuse o reason s
  | _, _, _ => refuse o .range s

/-! ## Set conditions (R33) and Clear faults (R186) -/

/-- The condition values with the masked user conditions replaced (R33). -/
def maskedConditions (old : BitVec 16) (mask values : Byte) : BitVec 16 :=
  let m : BitVec 16 := mask.setWidth 16 <<< 8
  (old &&& ~~~m) ||| ((values.setWidth 16 <<< 8) &&& m)

/-- R33: Set conditions. -/
def takeSetConditions (o : ReqRef) (ops : Operands) (s : State) : State :=
  let t := setConditions (maskedConditions s.conds.values (opByte ops 0) (opByte ops 1)) s
  finish o (outcomeDetail [(1, (userConditions t).toNat)]) t

/-- The detail of a Clear faults (R186). -/
def clearDetail (f : FaultState) : BitVec 112 :=
  outcomeDetail [(1, kindCode f.posted), (2, f.accrued.toNat), (1, if f.frame.kind.isSome then 1 else 0)]

/-- R186: Clear faults. -/
def takeClearFaults (e : Engine) (o : ReqRef) (s : State) : State :=
  finish o (clearDetail (faultOf s e)) (s.withFault e FaultState.empty)

/-! ## The requests -/

/-- Step 4 of R27 for each defined request. -/
def takeRequest (e : Engine) (r : RequestName) (o : ReqRef) (qual : Bool) (ops : Operands)
    (s : State) : State :=
  match r with
  | .configurePanel => takeConfigurePanel o ops s
  | .loadWaveformSet => takeLoadWaveformSet o ops s
  | .updateRegion => takeUpdateRegion o ops s
  | .cancelUpdate => takeCancelUpdate o ops s
  | .stagePage => takeStagePage o ops s
  | .freeSlot => takeFreeSlot o ops s
  | .ringReset => takeRingReset o ops s
  | .showSlot => takeShowSlot o ops s
  | .turn => takeTurn o ops s
  | .configureLight => takeConfigureLight o ops s
  | .setLight => takeSetLight o ops s
  | .configureLink => takeConfigureLink o ops s
  | .radioOn => takeRadioOn o s
  | .radioOff => takeRadioOff o s
  | .armParcel => takeArmParcel o ops s
  | .cancelParcel => takeCancelParcel o ops s
  | .releaseParcel => takeReleaseParcel o ops s
  | .reportParcel => takeReportParcel o ops s
  | .configurePower => takeConfigurePower o ops s
  | .setCharge => takeSetCharge o ops s
  | .doze => takeDoze o s
  | .sleep => takeSleep o ops s
  | .cancelSleep => takeCancelSleep o s
  | .acknowledgeInputs => takeAcknowledge o s
  | .setConditions => takeSetConditions o ops s
  | .test => takeTest e o qual ops s
  | .clearFaults => takeClearFaults e o s

/-- R27: a defined request that the engine takes. -/
def examine (e : Engine) (r : RequestName) (o : ReqRef) (qual : Bool) (ops : Operands)
    (s : State) : State :=
  if (faultOf s e).posted.isSome ∧ r ≠ .clearFaults then refusePosted e o s
  else if !zeroOperands e r ops then refuse o .illegal s
  else if sleepingRefusal s r then refuse o .sleeping s
  else takeRequest e r o qual ops s

/-- R25, R27: a no-op taken with its qualifier true; its twenty operand bytes are defined zero. -/
def examineNoOp (e : Engine) (o : ReqRef) (ops : Operands) (s : State) : State :=
  if (faultOf s e).posted.isSome then refusePosted e o s
  else if ops ≠ 0 then refuse o .illegal s
  else finish o 0 s

end Sys2Proof.Machine
end

