-- ==== Sys2Proof/Machine/Chain.lean ====
section
/-! DEFINITION. The chain unit: hand-over (R12, R24 to R26, R30, R54), the readers (R9 to R15, R18), the
steps that follow inside an event, and the frame of an event. -/

namespace Sys2Proof.Machine

/-! ## Hand-over -/

/-- SKIPPED, reason NONE. -/
def skip (o : ReqRef) (s : State) : State := writeOutcome o .skipped .none 0 s

/-- R54: the panel engine declines an Update region or a Show slot while the queue holds 32 entries. -/
def declines (s : State) : RequestName → Bool
  | .updateRegion | .showSlot => decide (Config.queueRoom ≤ s.panel.queue.length)
  | _ => false

/-- R25, R30, R54: a defined code offered with the qualifier value read; none when it is declined. -/
def offerDefined (e : Engine) (r : RequestName) (o : ReqRef) (qual : Bool) (ops : Operands)
    (s : State) : Option State :=
  if qual then if declines s r then none else some (examine e r o true ops s)
  else if r = .test ∧ opByte ops 2 = 1 then some (examine e r o false ops s)
  else some (skip o s)

/-- R25: a slot offered to an engine with the qualifier value read; none when it is declined. -/
def offerCode (e : Engine) (code : Byte) (o : ReqRef) (qual : Bool) (ops : Operands)
    (s : State) : Option State :=
  match codeClass e code with
  | .noOp => some (if qual then examineNoOp e o ops s else skip o s)
  | .defined r => offerDefined e r o qual ops s
  | .reserved => some (refuse o .illegal s)
  | .extension => some (if qual then refuse o .illegal s else skip o s)
  | .ignored => some (finish o 0 s)

/-- R12, R24: the hand-over of a slot; none when the engine declines it. -/
def settleSlot (x : Slot) (o : ReqRef) (s : State) : Option State :=
  if x.engine = 0 then some (skip o s)
  else
    match engineOf x.engine with
    | none => some (refuse o .illegal s)
    | some e =>
      if 15 < x.qual.toNat then some (refuse o .illegal s)
      else offerCode e x.code o (condition s x.qual) x.ops s

/-- The hand-over with what follows the state at its end (log 10, log 11). DESIGN CHOICE (log 10): an engine-owned
condition that its owner changes in the event in which a reader goes on is read as qualifier as it stood before the
change by the first hand-over of that event, and as it then stands by the later ones; R24 allows either. -/
def handOver (x : Slot) (o : ReqRef) (s : State) : Option State := (settleSlot x o s).map note

/-! ## Bundle addresses (R5, R10, R18) -/

/-- Every bundle that the chain unit holds. -/
def heldBundles (s : State) : List Bundle :=
  s.readers.toList.flatMap fun r => r.current.toList ++ r.openList

/-- Two bundles of 160 bytes overlap. -/
def bundlesOverlap (a b : Word) : Bool :=
  decide (a.toNat < b.toNat + 160) && decide (b.toNat < a.toNat + 160)

/-- R5: the first check that a bundle address fails, NONE when it is acceptable. -/
def checkBundle (s : State) (a : Word) : ChainCause :=
  if a.toNat % 32 ≠ 0 then .misaligned
  else if Config.lastBundle < a.toNat then .outside
  else if a.toNat < Config.hostAreaStart then .anchor
  else if (heldBundles s).any fun b => bundlesOverlap a b.addr then .inUse
  else .none

/-- R18: a chain fault. R18 names no change of the next slot, which the model sets to 0 (log 33). -/
def chainFault (k : Fin 4) (a : Word) (c : ChainCause) (s : State) : State :=
  raiseFault true
    (s.withReader k
      { readerOf s k with
        state := .stopped, hold := .none, current := none, next := 0, fetched := none, faultAddr := a,
        faultCause := c })

/-- The record of a bundle at READING: every outcome PENDING (R6). -/
def freshBundle (a : Word) : Bundle := ⟨a, 0, false, Vector.replicate 3 .pending⟩

/-- R10: a reader enters READING at a bundle address, once the checks of R5 pass. The bundle it leaves is no
longer its current one; the next slot becomes 0 when the read has completed. -/
def enterReading (k : Fin 4) (a : Word) (s : State) : State :=
  let s := s.withReader k { readerOf s k with current := none }
  match checkBundle s a with
  | .none =>
    s.withReader k
      { readerOf s k with
        state := .reading, hold := .none, current := some (freshBundle a), fetched := none }
  | c => chainFault k a c s

/-! ## Reading a bundle (R6, R10) -/

/-- The slot at an address (12.1). -/
def readSlot (m : Memory) (a : Nat) : Slot where
  engine := (m.read a).setWidth 3
  barrier := (m.read a).getLsbD 7
  qual := m.read (a + 1)
  code := m.read (a + 2)
  ops := BitVec.ofNat 160 (m.field (a + 4) 20)

/-- The tag, the notify flag and the slots of a bundle (12.1). -/
def readContents (m : Memory) (a : Nat) : Contents where
  tag := BitVec.ofNat 32 (m.field (a + 4) 4)
  notify := (m.read (a + 8)).getLsbD 0
  slots := #v[readSlot m (a + 16), readSlot m (a + 40), readSlot m (a + 64)]

/-- R10: the bundle read completes: TAKEN is written and the reader enters HANDING. -/
def completeRead (k : Fin 4) (s : State) : State :=
  let r := readerOf s k
  match r.state, r.current with
  | .reading, some b =>
    if s.asleep then s
    else
      let c := r.fetched.getD (readContents s.mem b.addr.toNat)
      writeBundleState b.addr 1
        (s.withReader k
          { r with
            state := .handing
            hold := .none
            current := some { b with tag := c.tag, notify := c.notify }
            slots := c.slots
            next := 0
            fetched := none })
  | _, _ => s

/-! ## Leaving (R14 to R16) -/

/-- R14, step 3: the link is followed. -/
def followLink (k : Fin 4) (b : Bundle) (link : Word) (s : State) : State :=
  let r := readerOf s k
  if b.allFinal then
    let t := s.withReader k { r with current := none }
    enterReading k link (retire k b t)
  else
    let t := s.withReader k { r with current := none, openList := r.openList ++ [b] }
    enterReading k link (writeBundleState b.addr 2 t)

/-- The link word of a bundle (12.1). -/
def linkWord (s : State) (b : Bundle) : Word := BitVec.ofNat 32 (s.mem.field b.addr.toNat 4)

/-- R14, steps 2 to 4: the link is read once, and followed or waited for. -/
def readLink (k : Fin 4) (b : Bundle) (s : State) : State :=
  if linkWord s b ≠ 0 then followLink k b (linkWord s b) s
  else s.withReader k { readerOf s k with state := .awaitLink, hold := .none }

/-- R14, step 1: a bundle that is not final needs room in the open-bundle list. -/
def mayLeave (r : Reader) (b : Bundle) : Bool :=
  b.allFinal || decide (r.openList.length < Config.listRoom)

/-- R14: the leaving step of a reader whose next slot is 3. -/
def leave (k : Fin 4) (b : Bundle) (s : State) : State :=
  if mayLeave (readerOf s k) b then readLink k b s
  else s.withReader k { readerOf s k with hold := .listRoom }

/-! ## Handing over (R11, R13) -/

/-- Every outcome of the current bundle before slot `n` is final. -/
def lowerFinal (b : Bundle) (n : Nat) : Bool := (b.outcomes.toList.take n).all OutcomeState.final

/-- R11: a barrier slot may be handed over. -/
def barrierOpen (r : Reader) (b : Bundle) : Bool := r.openList.isEmpty && lowerFinal b r.next

/-- The next slot advances and the hold ends (R11). -/
def advance (k : Fin 4) (s : State) : State :=
  s.withReader k { readerOf s k with next := (readerOf s k).next + 1, hold := .none }

/-- A reader's hold cause replaced. -/
def holdReader (k : Fin 4) (h : HoldCause) (s : State) : State :=
  s.withReader k { readerOf s k with hold := h }

/-- R11 to R13: the hand-over of the reader's next slot is attempted. -/
def attemptSlot (k : Fin 4) (b : Bundle) (n : Fin 3) (s : State) : State :=
  let r := readerOf s k
  let x := r.slots[n]
  if x.barrier && !barrierOpen r b then holdReader k .barrier s
  else
    match handOver x ⟨k, b.addr, n, b.tag⟩ s with
    | none => holdReader k .queueRoom s
    | some t => advance k t

/-- The next step of a reader in HANDING: its next slot, or the leaving step. -/
def readerStep (k : Fin 4) (s : State) : State :=
  let r := readerOf s k
  match r.current with
  | none => s
  | some b => if h : r.next < 3 then attemptSlot k b ⟨r.next, h⟩ s else leave k b s

/-- A reader in HANDING whose next step is not held. -/
def readerReady (s : State) (k : Fin 4) : Bool :=
  let r := readerOf s k
  match r.state, r.current with
  | .handing, some b =>
    match r.hold with
    | .none => true
    | .barrier => barrierOpen r b
    | .queueRoom => false
    | .listRoom => mayLeave r b
  | _, _ => false

/-- A reader that holds with QUEUE_ROOM. -/
def holdsQueueRoom (s : State) (k : Fin 4) : Bool :=
  (readerOf s k).state == .handing && (readerOf s k).hold == .queueRoom

/-- The chains in increasing number. -/
def chainNumbers : List (Fin 4) := [0, 1, 2, 3]

/-- The lowest-numbered reader that holds with QUEUE_ROOM (R13). -/
def admitted (s : State) : Option (Fin 4) := chainNumbers.find? (holdsQueueRoom s)

/-- The lowest-numbered reader whose next step is not held (log 8). -/
def readyReader (s : State) : Option (Fin 4) := chainNumbers.find? (readerReady s)

/-! ## Watched writes (R4, R9, R15) -/

/-- Head word `k`. -/
def headWord (s : State) (k : Fin 4) : Word := BitVec.ofNat 32 (s.mem.field (4 * k.1) 4)

/-- R9: a watched write to head word `k`. -/
def reportHead (k : Fin 4) (s : State) : State :=
  if (readerOf s k).headArmed ∧ headWord s k ≠ 0 then enterReading k (headWord s k) s else s

/-- R15: a watched write to the link word of the current bundle of reader `k`. -/
def reportLink (k : Fin 4) (s : State) : State :=
  match (readerOf s k).current with
  | some b =>
    if (readerOf s k).linkArmed ∧ linkWord s b ≠ 0 then followLink k b (linkWord s b) s else s
  | none => s

/-- A report is taken by its reader. -/
def takeReport (s : State) : Fin 4 × Watch → State
  | (k, .head) => reportHead k s
  | (k, .link) => reportLink k s

/-- R19: the watched writes reported in SLEEP are taken in the order reported. -/
def takeReports (s : State) : State := s.reports.foldl takeReport (s.withReports [])

/-! ## What follows inside an event -/

/-- A place of the pending queue is free. -/
def queueHasRoom (s : State) : Bool := decide (s.panel.queue.length < Config.queueRoom)

/-- The sleep entry's next step, when the present one has come to its end (R171 to R173). -/
def sleepStep (s : State) : Option State :=
  if drainingOver s then some (startImaging s)
  else if imagingOver s then some (startDarkening s)
  else if darkeningOver s then some (endDarkening s)
  else none

/-- The readers' next step: a freed place goes to a held turn, then to the lowest reader that holds
QUEUE_ROOM (R13); then the lowest reader whose hold is over goes on. -/
def chainStep (s : State) : Option State :=
  if turnWaits s && queueHasRoom s then some (placeHeldTurn s)
  else
    match admitted s, queueHasRoom s with
    | some k, true => some (readerStep k s)
    | _, _ => (readyReader s).map fun k => readerStep k s

/-- One internal step, none when nothing is left to do. In SLEEP nothing is done (R19): a reader
that is admitted in a brownout takes its hand-over at the wake, and a BARRIER or LIST_ROOM hold whose end comes in
the event that enters SLEEP stands until the wake (log 34). -/
def settleStep (s : State) : Option State :=
  if s.asleep then none
  else if s.reports ≠ [] then some (takeReports s)
  else
    match chainStep s with
    | some t => some t
    | none => sleepStep s

/-- The internal steps of an event, until none is left (log 22). After each the limiting episode follows the duties,
before the next (R109; log 11). -/
def settle : Nat → State → State
  | 0, s => s
  | n + 1, s =>
    match settleStep s with
    | none => s
    | some t => settle n (noteLimiting t)

/-- The start of an event: no condition has changed in it, and its start scan has not run (R21, R61). -/
def freshEvent (s : State) : State := (s.withConds { s.conds with bumped := false }).withScanned false

/-- The start of a command's event: nothing is returned yet. -/
def beginEvent (s : State) : State := freshEvent (s.withPort { s.port with returned := [] })

end Sys2Proof.Machine
end

