-- ==== Sys2Proof/Machine/Status.lean ====
section
/-! DEFINITION. The status block (12.4): each record as the bytes that its block has written, which are the
values of the state at the end of the last event (R8, R21, R52, R75, R79, R113, R130, R133, R166, R181, R187;
log 3). -/

namespace Sys2Proof.Machine

/-- An item of `n` bytes that holds a number. -/
def item (n v : Nat) : List Byte := leBytes n v

/-- A flag byte. -/
def bit (b : Bool) : List Byte := [flagByte b]

/-- `n` spare bytes (R190). -/
def spare (n : Nat) : List Byte := List.replicate n 0

/-- The bundle address of a reader, 0 when there is none (R8). -/
def readerAddr (r : Reader) : Nat := (r.current.map fun b => b.addr.toNat).getD 0

/-- R8: a chain status record. -/
def chainRecord (r : Reader) : List Byte :=
  [r.state.code, r.hold.code] ++ item 1 r.next ++ item 1 r.openList.length ++ item 4 (readerAddr r)
    ++ item 4 r.faultAddr.toNat ++ [r.faultCause.code] ++ spare 3 ++ item 4 r.retired.toNat

/-- R21: the conditions record. -/
def conditionsRecord (c : Conditions) : List Byte := item 2 c.values.toNat ++ item 2 c.count.toNat

/-- R113: the light status record. -/
def lightRecordBytes (l : Light) : List Byte :=
  bit l.auto ++ item 1 (bitsNat [l.limiting, l.lost, l.dark, l.ramp.isSome]) ++ item 2 l.level
    ++ item 1 l.warmth ++ spare 1 ++ item 2 l.dw ++ item 2 l.dc ++ item 2 l.il ++ item 2 l.g ++ item 2 l.lw
    ++ item 2 l.lc ++ item 2 l.pw ++ item 2 l.pc ++ item 2 l.lux

/-- The number of frames in the receive FIFO (7.6). -/
def fifoCount (l : Link) : Nat := l.fifo.length + (if l.handling.isSome then 1 else 0)

/-- R130: the link status record, with the committed radio claim. -/
def linkRecordBytes (l : Link) (claim : Nat) : List Byte :=
  bit l.rail ++ item 1 l.receiver.state.code
    ++ ([(0 : Fin 4), 1, 2, 3].flatMap fun b => item 1 (bufState l b).code)
    ++ item 1 (fifoCount l) ++ bit (linkReady l) ++ item 1 l.outbound.length ++ item 1 (refuseCount l.outbound)
    ++ bit l.sending.isSome ++ bit l.connected ++ item 1 l.signal ++ [l.settings.station]
    ++ bit l.settings.filter ++ spare 1 ++ item 2 claim ++ item 2 l.accepted.toNat

/-- R166: the power status record, with the committed current and G. -/
def powerRecordBytes (p : Power) (com g : Nat) : List Byte :=
  leInt 2 p.vb ++ leInt 2 p.ib ++ leInt 1 p.batteryTemp ++ leInt 1 p.panelTemp
    ++ item 1 (bitsNat [p.gauge.calibrated, p.hot, p.shortfall, p.mark]) ++ item 1 p.gauge.clamp.code
    ++ item 8 p.gauge.qr ++ item 8 p.gauge.qfull ++ item 2 p.gauge.soc ++ item 2 p.settings.capacity
    ++ leInt 2 p.vopen ++ item 4 p.h ++ item 2 p.imaxEff ++ item 2 p.budget ++ item 2 com
    ++ item 2 p.radioClaim ++ item 2 g ++ item 4 p.measurements.toNat

/-- Whole seconds left of a time in milliseconds, a part of a second counting as one (log 17). -/
def secondsLeft (ms : Nat) : Nat := (ms + 999) / 1000

/-- The download hold timer's milliseconds left. -/
def HoldTimer.left : HoldTimer → Nat
  | .running t => t
  | .stopped | .expired => 0

/-- The fields of the sleep record: origin, image address, mode, wake set, wake timer setting; 0 when it is
absent (R181). -/
def sleepRecBytes : Option SleepRec → List Byte
  | some r =>
    item 1 r.origin.code ++ item 4 r.image.toNat ++ item 1 r.mode.code ++ item 1 r.wakeSet.toNat
      ++ item 2 r.timer
  | none => spare 9

/-- The image flag of the sleep entry in progress, or of the one last completed (R181). DESIGN CHOICE (log 53): it
shows NONE in DRAINING, and in IMAGING until R172 decides it; an entry that ends without SLEEP, or by brownout, is not
the one last completed. -/
def shownFlag (p : Power) : ImageFlag :=
  if p.state = .sleepPending then p.sleep.imageFlag else p.sleep.doneFlag

/-- R181: the sleep status record. The return state outside SLEEP_PENDING is that of the last sleep entry
(log 37). -/
def sleepRecordBytes (p : Power) : List Byte :=
  item 1 p.state.code ++ item 1 p.returnState.code ++ item 1 (stepCode p.sleep.step)
    ++ sleepRecBytes p.sleep.record ++ item 2 (secondsLeft (p.sleep.wakeTimer.getD 0))
    ++ item 2 (secondsLeft p.sleep.hold.left) ++ item 1 (shownFlag p).code ++ bit p.mark
    ++ item 1 p.sleep.lastWake.code ++ item 1 p.sleep.cover.code ++ item 2 p.sleep.wakeCount.toNat
    ++ item 1 p.inputs.snapshot.toNat ++ bit p.inputs.closed ++ item 1 p.inputs.debounced.toNat ++ spare 3

/-- One ring slot of the ring status record. -/
def ringSlotBytes (x : RingSlot) : List Byte :=
  item 1 x.tag.code ++ item 1 x.mode.code ++ spare 2 ++ item 4 x.label.toNat

/-- R79: the ring status record. -/
def ringRecordBytes (p : Panel) : List Byte :=
  item 1 p.ring.current.1 ++ item 1 p.ring.dir.code ++ item 1 (heldCode p.ring.held) ++ item 1 p.ring.ahead
    ++ bit (ringLow p) ++ spare 3 ++ p.ring.slots.toList.flatMap ringSlotBytes

/-- A rectangle as eight bytes. -/
def rectBytes (r : Rect) : List Byte := item 2 r.x ++ item 2 r.y ++ item 2 r.w ++ item 2 r.h

/-- The sixteen entries of the uncertain list in the panel status record (R52, 12.4). DESIGN CHOICE (log 52): the
eight bytes of an entry at or beyond the entry count are 0; the manual gives them no value. -/
def uncertainBytes (u : List Rect) : List Byte :=
  (List.range 16).flatMap fun i => rectBytes (u.getD i ⟨0, 0, 0, 0⟩)

/-- R52: the panel status record. Band count and set identifier are 0 while the set is not VALID. -/
def panelRecordBytes (p : Panel) (m : Memory) : List Byte :=
  item 1 p.setState.code ++ item 1 (if p.setState.isValid then waveBands m else 0)
    ++ leInt 1 ((p.band.map Int.ofNat).getD (-1)) ++ leInt 1 p.lastTemp ++ item 1 p.range.code
    ++ bit p.wholePanel ++ item 1 p.uncertain.length ++ spare 1
    ++ item 4 (if p.setState.isValid then waveIdent m else 0)
    ++ item 2 p.settings.width ++ item 2 p.settings.height ++ uncertainBytes p.uncertain

/-- One lane of the lane status record (R75). -/
def laneBytes (l : Lane) : List Byte :=
  item 1 l.state.code ++ item 1 ((l.origin.map EntryOrigin.code).getD 0) ++ item 1 l.mode.code
    ++ item 1 l.band ++ item 1 l.frameIndex ++ item 1 l.frameCount ++ item 2 l.claim ++ rectBytes l.rect

/-- R75: the lane status record. -/
def laneRecordBytes (p : Panel) : List Byte :=
  item 1 p.queue.length ++ item 1 (p.queue.filter fun e => e.hold == .budget).length ++ spare 2
    ++ p.lanes.toList.flatMap laneBytes

/-- One record of the parcel status record (R133). -/
def parcelBytes (p : Parcel) : List Byte :=
  item 1 p.state.code ++ [p.reason.code] ++ item 1 p.gaps ++ spare 1 ++ item 2 p.number.toNat
    ++ item 2 p.received ++ item 2 p.count ++ item 4 p.total ++ item 4 p.buffer.toNat

/-- R133: the parcel status record. -/
def parcelRecordBytes (l : Link) : List Byte :=
  bit (parcelReady l) ++ spare 3 ++ l.parcels.toList.flatMap parcelBytes

/-- The origin fields of a fault frame: present, chain, slot, spare; and the bundle tag. Without an origin they are
all 0 (log 19). -/
def frameOrigin : Option ReqRef → List Byte × List Byte
  | some o => (bit true ++ item 1 o.chain.1 ++ item 1 o.slot.1 ++ spare 1, item 4 o.tag.toNat)
  | none => (spare 4, spare 4)

/-- R187: a fault record. An empty frame keeps its engine's code (log 19). -/
def faultRecordBytes (e : Engine) (f : FaultState) : List Byte :=
  item 2 f.accrued.toNat ++ item 1 (kindCode f.posted) ++ [f.count]
    ++ item 1 (engineCode e) ++ item 1 (kindCode f.frame.kind)
    ++ (frameOrigin f.frame.origin).1 ++ item 2 f.frame.accrued.toNat ++ (frameOrigin f.frame.origin).2
    ++ leBytes 16 f.frame.detail.toNat

/-- The bytes of the status block from offset 0x040 to 0x3FB (12.4). -/
def statusBytes (s : State) : List Byte :=
  s.readers.toList.flatMap chainRecord ++ conditionsRecord s.conds ++ lightRecordBytes s.light
    ++ linkRecordBytes s.link s.power.radioClaim ++ powerRecordBytes s.power (committed s) s.light.g
    ++ sleepRecordBytes s.power ++ ringRecordBytes s.panel ++ panelRecordBytes s.panel s.mem
    ++ laneRecordBytes s.panel ++ parcelRecordBytes s.link
    ++ [Engine.panel, .light, .link, .power].flatMap fun e => faultRecordBytes e (faultOf s e)

/-- The status block as page memory shows it: in SLEEP as it was last written (R165, R177). -/
def shownStatus (s : State) : List Byte :=
  match s.held with
  | some bytes => bytes
  | none => statusBytes s

/-- The byte of page memory at an address (R1, 1.1). No record covers the four spare bytes from 0x3FC on, which
read as page memory holds them (log 45). -/
def pageByte (s : State) (a : Nat) : Byte :=
  if Config.statusStart ≤ a ∧ a < Config.statusEnd then (shownStatus s).getD (a - Config.statusStart) 0
  else s.mem.read a

/-- The bytes of page memory from an address. -/
def pageBytes (s : State) (a n : Nat) : List Byte := (List.range n).map fun i => pageByte s (a + i)

end Sys2Proof.Machine
end

