-- ==== Sys2Proof/Machine/Events.lean ====
section
/-! DEFINITION. The frame of an event, host accesses (R1 to R4, R188), the resets (R3, R20), and the rows of
the table whose slot stands offered (log 7). -/

namespace Sys2Proof.Machine

/-! ## The frame of an event -/

/-- The status block as it is held in SLEEP: kept from the entry to SLEEP, dropped at the wake (R165). -/
def holdStatus (s : State) : State :=
  if s.asleep then
    match s.held with
    | some _ => s
    | none => s.withHeld (some (statusBytes s))
  else s.withHeld none

/-- The end of an event: the limiting episode, the conditions, the ramp clock and the held status block
follow the state (R21, R104, R109, R165). -/
def endEvent (s : State) : State := holdStatus (startRamp (note s))

/-- The rest of an event: the limiting episode follows the event's own effect (R109; log 11), then come the internal
steps that follow in it (R13, R16, R171 to R173), then its end. -/
def rest (s : State) : State := endEvent (settle Config.settleFuel (noteLimiting s))

/-- One event of the part: the command's own effect, then all that follows in the same event. -/
def event (f : State → State) (s : State) : State := rest (f (beginEvent s))

/-- The next event begins within the same command (log 35). -/
def nextEvent (s : State) : State := freshEvent s

/-! ## Host writes (R1, R4) -/

/-- R1: a byte address that a host write changes. -/
def hostWritable (a : Nat) : Bool :=
  decide (a < 16) || (decide (Config.hostAreaStart ≤ a) && decide (a < Config.hostAreaEnd))

/-- R1: a host write, byte by byte. -/
def storeHost (m : Memory) (a : Nat) : List Byte → Memory
  | [] => m
  | b :: bs => storeHost (if hostWritable a then m.write a b else m) (a + 1) bs

/-- The bytes `a` to `a + n - 1` meet the four bytes of a word. -/
def touches (a n w : Nat) : Bool := decide (a < w + 4) && decide (w < a + n)

/-- R4: the watched words of reader `k` that a host write of `n` bytes touches. -/
def watchedBy (s : State) (a n : Nat) (k : Fin 4) : List (Fin 4 × Watch) :=
  let r := readerOf s k
  (if r.headArmed && touches a n (4 * k.1) then [(k, .head)] else [])
    ++ (match r.current with
        | some b => if r.linkArmed && touches a n b.addr.toNat then [(k, .link)] else []
        | none => [])

/-- R4: the reports of a host write, by increasing chain number. -/
def watched (s : State) (a n : Nat) : List (Fin 4 × Watch) := chainNumbers.flatMap (watchedBy s a n)

/-- R1, R4: a host write takes effect and is reported; the readers act on it at once, or at the next wake
(R2, R19). -/
def serveWrite (a : Nat) (data : List Byte) (s : State) : State :=
  let w := watched s a data.length
  let t := s.withMem (storeHost s.mem a data)
  t.withReports (t.reports ++ w)

/-! ## Host reads -/

/-- The port returns bytes to the host. -/
def returnBytes (bytes : List Byte) (s : State) : State :=
  s.withPort { s.port with returned := s.port.returned ++ [bytes] }

/-- R1: a host read. -/
def serveRead (a n : Nat) (s : State) : State := returnBytes (pageBytes s a n) s

/-- R169: in DOZE a NOTICE read returns the part to RUN. -/
def leaveDoze (s : State) : State :=
  if s.power.state = .doze then s.withPower { s.power with state := .run } else s

/-- R188, R169: a NOTICE read returns the set and takes it. -/
def serveNotice (s : State) : State :=
  leaveDoze ((returnBytes (leBytes 4 (noticeWord s).toNat) s).withNotices 0)

/-- A host access is served. RESET reads 0, as a word (log 32), and a write to NOTICE is discarded (R3). -/
def serve (s : State) : Access → State
  | .write a data => serveWrite a.toNat data s
  | .read a n => serveRead a.toNat n s
  | .noticeRead => serveNotice s
  | .resetRead => returnBytes (leBytes 4 0) s
  | .noticeWrite _ => s

/-- The access is a read of NOTICE. -/
def Access.isNotice : Access → Bool
  | .noticeRead => true
  | .write _ _ => false
  | .read _ _ => false
  | .resetRead => false
  | .noticeWrite _ => false

/-- R2: a host access. During a reset it is held (R3). In SLEEP it wakes the part when the mark is clear, and is
served after the wake event has ended (log 35); when the mark is set, the held status block is written first and
the part stays in SLEEP. DESIGN CHOICE (logs 29 and 35): a wake event that itself enters SLEEP again, as a Sleep that
a waiting reader hands over does when all is at rest, does not hold its access back or wake the part a second time.
The access is served in that SLEEP, with the mark clear, and a watched write so made waits for the next wake. -/
def access (x : Access) (s : State) : State :=
  if s.port.resetting then s.withPort { s.port with waiting := s.port.waiting ++ [x] }
  else if s.asleep then
    if s.power.mark then serve (s.withHeld (some (statusBytes s))) x
    else serve (nextEvent (rest (wake .hostAccess x.isNotice s))) x
  else serve s x

/-! ## Resets (R3, R20) -/

/-- R20, step 3: the head words and the spare bytes hold 0. -/
def clearAnchor (m : Memory) : Memory := m.writeBytes 0 (List.replicate 64 0)

/-- R20, R74: the chain unit forgets every bundle before the engines reset. -/
def forgetBundles (s : State) : State :=
  (s.withReaders (Vector.replicate 4 Reader.reset)).withReports []

/-- R37: the geometry in force before the reset was the reset geometry. -/
def resetGeometry (p : PanelSettings) : Bool := p.width == 1024 && p.height == 768

/-- The panel engine after a part reset, from the engine after its halt (R37, R44, R53, R74, R78). -/
def resetPanel (p : Panel) : Panel :=
  if resetGeometry p.settings then { Panel.reset with uncertain := p.uncertain, wholePanel := p.wholePanel }
  else Panel.reset

/-- The gauge after a part reset (R166; log 14). -/
def resetGauge (g : Gauge) : Gauge := { g with clamp := .none }

/-- The power engine after a part reset (R166, R167, R180). -/
def resetPower (p : Power) : Power :=
  { Power.reset p.inputs.raw with
    settings := { PowerSettings.reset with capacity := p.settings.capacity }
    gauge := resetGauge p.gauge }

/-- The outcomes that a part reset writes into page memory: the Sleep of a sleep entry, with a zero detail
(log 44), then the halt's (R73, R74, R167). -/
def resetOutcomes (s : State) : State :=
  let t := forgetBundles s
  halt (if t.power.state = .sleepPending then writeSleep .failed .halted 0 t else t)

/-- R3, R20: what a power-on reset and a part reset alike do to the port: it holds host accesses from here on, behind
those that it held already, and serves them all after the reset. -/
def resetPort (p : Port) : Port := { p with resetting := true }

/-- R3, R20: a part reset. Its actions are taken at its start; the port holds accesses until the command
RESET_COMPLETE (log 26). -/
def partReset (s : State) : State :=
  let t := resetOutcomes s
  { State.reset with
    mem := clearAnchor t.mem
    port := resetPort s.port
    conds := Conditions.reset s.power.inputs.raw
    panel := resetPanel t.panel
    power := resetPower s.power
    free := s.free
    pending := s.pending }

/-- R3, R20: a power-on reset; page memory holds whatever the DRAM holds (log 2). Its effect on the port and the chain
unit is that of a part reset. -/
def powerOn (s : State) : State :=
  { State.reset with
    mem := clearAnchor (Memory.ofCells (Config.powerOnCells s.free))
    port := resetPort s.port
    conds := Conditions.reset s.power.inputs.raw
    power := Power.reset s.power.inputs.raw
    free := s.free + 1
    pending := s.pending }

/-- An access held through a reset is served in an event of its own (R3; log 35). -/
def serveHeld (s : State) (x : Access) : State := rest (serve (nextEvent s) x)

/-- R3: the reset actions have ended and the port serves the accesses it held, in the order they arrived. -/
def completeReset (s : State) : State :=
  if s.port.resetting then
    s.port.waiting.foldl serveHeld (s.withPort { s.port with resetting := false, waiting := [] })
  else s

/-! ## Offered slots (log 7) -/

/-- The request of an offer. -/
def offerRef (o : Offer) : ReqRef := ⟨o.chain, o.bundle, o.slot, o.tag⟩

/-- The slot of an offer; its barrier flag plays no part. -/
def offerSlot (engine : BitVec 3) (code : Byte) (o : Offer) : Slot := ⟨engine, false, o.qual, code, o.ops⟩

/-- Reader `k` is in HANDING at the offered slot. -/
def handingAt (r : Reader) (o : Offer) : Bool :=
  match r.state, r.current with
  | .handing, some b => b.addr == o.bundle && r.next == o.slot.1
  | _, _ => false

/-- The slot the reader keeps is the offered one. -/
def keepsSlot (r : Reader) (x : Slot) (o : Offer) : Bool :=
  { r.slots[o.slot] with barrier := false } == x

/-- The chain unit holds a bundle that overlaps the one at an address (R5). -/
def chainHolds (s : State) (a : Word) : Bool := (heldBundles s).any fun b => bundlesOverlap a b.addr

/-- The effect of an offered slot: nothing in SLEEP (R19) or during a reset (R20). When the reader is at the
slot and its next step is not held, the reader's own step (R11 to R13). A slot of a bundle that the chain unit
holds is handed over by its reader alone, in the order of R11. A slot of any other bundle is handed over on its
own. A declined offer changes nothing (R12). -/
def offer (x : Slot) (o : Offer) (s : State) : State :=
  let r := readerOf s o.chain
  if s.asleep || s.port.resetting then s
  else if handingAt r o then
    if keepsSlot r x o && readerReady s o.chain then readerStep o.chain s else s
  else if chainHolds s o.bundle then s
  else (handOver x (offerRef o) s).getD s

/-- The engine field of an engine (12.1). -/
def engineField (e : Engine) : BitVec 3 := BitVec.ofNat 3 (engineCode e)

/-- The event of an offered slot. -/
def offerEvent (x : Slot) (o : Offer) (s : State) : State := event (offer x o) s

/-! ## Outcomes of commands -/

/-- The outcome of a step of the machine. -/
abbrev Out := Host.Outcome State Fault Refusal

/-- A command with operands that its row does not have is refused (log 20). -/
def guarded (ok : Bool) (s : State) : Out := if ok then .next s else .refused .illFormed

/-- The command of an offered slot to an engine with a request code. -/
def runOffer (ok : Bool) (e : Engine) (code : Byte) (o : Offer) (s : State) : Out :=
  guarded ok (offerEvent (offerSlot (engineField e) code o) o s)

end Sys2Proof.Machine
end

