-- ==== Sys2Proof/WellFormed.lean ====
section
/-! DEFINITION. The static checks of a command: operands that no command of the table has are refused
(log 20). -/

namespace Sys2Proof

/-- An offered slot stands in a bundle whose address passes checks 1 to 3 of R5. -/
def Offer.wellFormed (o : Offer) : Bool :=
  o.bundle.toNat % 32 == 0 && decide (o.bundle.toNat ≤ Config.lastBundle)
    && decide (Config.hostAreaStart ≤ o.bundle.toNat)

/-- The operands belong to the command's row. -/
def Instr.wellFormed : Instr → Bool
  | .hostWrite _ data => !data.isEmpty
  | .hostRead _ len => len != 0
  | .emptySlot o _ => o.wellFormed
  | .reservedEngine engine o _ => decide (5 ≤ engine.toNat) && o.wellFormed
  | .noOp _ o => o.wellFormed
  | .reservedRequestCode e o code => codeClass e code == .reserved && o.wellFormed
  | .extensionRequestCode e o code => codeClass e code == .extension && o.wellFormed
  | .ignoredRequestCode e o code => codeClass e code == .ignored && o.wellFormed
  | .test _ o => o.wellFormed
  | .setConditions o => o.wellFormed
  | .clearFaults _ o => o.wellFormed
  | .configurePanel o => o.wellFormed
  | .loadWaveformSet o => o.wellFormed
  | .updateRegion o => o.wellFormed
  | .cancelUpdate o => o.wellFormed
  | .stagePage o => o.wellFormed
  | .freeSlot o => o.wellFormed
  | .ringReset o => o.wellFormed
  | .showSlot o => o.wellFormed
  | .turn o => o.wellFormed
  | .configureLight o => o.wellFormed
  | .setLight o => o.wellFormed
  | .configureLink o => o.wellFormed
  | .radioOn o => o.wellFormed
  | .radioOff o => o.wellFormed
  | .armParcel o => o.wellFormed
  | .cancelParcel o => o.wellFormed
  | .releaseParcel o => o.wellFormed
  | .reportParcel o => o.wellFormed
  | .configurePower o => o.wellFormed
  | .setCharge o => o.wellFormed
  | .doze o => o.wellFormed
  | .sleep o => o.wellFormed
  | .cancelSleep o => o.wellFormed
  | .acknowledgeInputs o => o.wellFormed
  | .frameStart b => b != Config.delimiter
  | .stationMismatch b => b != Config.delimiter
  | .sizeOverflow b => b != Config.delimiter
  | .frameDataByte b => b != Config.delimiter
  | .powerOnReset => true
  | .resetPin => true
  | .resetWrite _ => true
  | .resetComplete => true
  | .noticeRead => true
  | .resetRead => true
  | .noticeWrite _ => true
  | .bundleReadComplete _ => true
  | .barrierRelease _ => true
  | .queueRoomAdmit => true
  | .listRoomRelease _ => true
  | .waveformLoadComplete => true
  | .entryStart _ => true
  | .budgetClockExpiry _ => true
  | .loadingComplete _ => true
  | .panelFrame => true
  | .closeComplete _ => true
  | .heldTurnQueued => true
  | .rampStep => true
  | .ambientSampleStart => true
  | .ambientSampleAnswer _ => true
  | .ambientSampleTimeout => true
  | .frameAbort => true
  | .frameClose => true
  | .takeHeldFrame => true
  | .blockWriteComplete => true
  | .quietTimerExpiry _ => true
  | .verifyComplete _ => true
  | .frameSendStart => true
  | .frameSendEnd => true
  | .measurement _ _ _ _ => true
  | .downloadHoldExpiry => true
  | .drainingEnd => true
  | .imagingEnd => true
  | .darkeningEnd => true
  | .rawInputChange _ _ => true
  | .debouncedChange _ => true
  | .wakeTimerExpiry => true
  | .wakePulseEnd => true
  | .huntDelimiter => true
  | .discardDelimiter => true

end Sys2Proof
end

