-- ==== Sys2Proof/Machine/ChainCommands.lean ====
section
/-! DEFINITION. The meanings of the port and chain commands: resets, host accesses, the readers' events
(chapter 1). -/

namespace Sys2Proof.Machine

/-- R20. -/
def execPowerOnReset (s : State) : Out := .next (event powerOn s)

/-- R3. -/
def execResetPin (s : State) : Out := .next (event partReset s)

/-- R3: any value starts the reset. -/
def execResetWrite (_value : Word) (s : State) : Out := .next (event partReset s)

/-- R3. -/
def execResetComplete (s : State) : Out := .next (event completeReset s)

/-- The bytes `a` to `a + n - 1` lie in page memory (chapter 1). -/
def inPageMemory (a n : Nat) : Bool := decide (a + n ≤ Config.pageMemorySize)

/-- R1, R2, R4; a fault beyond page memory (log 20). -/
def execHostWrite (addr : Word) (data : List Byte) (s : State) : Out :=
  if data.isEmpty then .refused .illFormed
  else if inPageMemory addr.toNat data.length then .next (event (access (.write addr data)) s)
  else .fault (.outsidePageMemory (addr.toNat + data.length - 1))

/-- R1, R2; a fault beyond page memory (log 20). -/
def execHostRead (addr : Word) (len : Nat) (s : State) : Out :=
  if len = 0 then .refused .illFormed
  else if inPageMemory addr.toNat len then .next (event (access (.read addr len)) s)
  else .fault (.outsidePageMemory (addr.toNat + len - 1))

/-- R188, R169, R2. -/
def execNoticeRead (s : State) : Out := .next (event (access .noticeRead) s)

/-- R3, R2: RESET reads 0. -/
def execResetRead (s : State) : Out := .next (event (access .resetRead) s)

/-- R3, R2: the value is discarded. -/
def execNoticeWrite (value : Word) (s : State) : Out := .next (event (access (.noticeWrite value)) s)

/-- R10. -/
def execBundleReadComplete (chain : Fin 4) (s : State) : Out := .next (event (completeRead chain) s)

/-- A reader that holds with the given cause goes on when its hold is over. -/
def releaseReader (h : HoldCause) (k : Fin 4) (s : State) : State :=
  if !s.asleep && (readerOf s k).hold == h && readerReady s k then readerStep k s else s

/-- R11. -/
def execBarrierRelease (chain : Fin 4) (s : State) : Out := .next (event (releaseReader .barrier chain) s)

/-- R13: a free place that no held turn waits for is given to the lowest reader that holds with
QUEUE_ROOM. -/
def admitReader (s : State) : State :=
  match admitted s with
  | some k => if !s.asleep && queueHasRoom s && !turnWaits s then readerStep k s else s
  | none => s

/-- R13. -/
def execQueueRoomAdmit (s : State) : Out := .next (event admitReader s)

/-- R14. -/
def execListRoomRelease (chain : Fin 4) (s : State) : Out := .next (event (releaseReader .listRoom chain) s)

/-- R12: engine field 0. -/
def execEmptySlot (o : Offer) (code : Byte) (s : State) : Out :=
  guarded o.wellFormed (offerEvent (offerSlot 0 code o) o s)

/-- R12: engine field 5 to 7. -/
def execReservedEngine (engine : BitVec 3) (o : Offer) (code : Byte) (s : State) : Out :=
  guarded (decide (5 ≤ engine.toNat) && o.wellFormed) (offerEvent (offerSlot engine code o) o s)

/-- R25. -/
def execNoOp (e : Engine) (o : Offer) (s : State) : Out := runOffer o.wellFormed e 0x00 o s

/-- R25, R26. -/
def execReservedRequestCode (e : Engine) (o : Offer) (code : Byte) (s : State) : Out :=
  runOffer (codeClass e code == .reserved && o.wellFormed) e code o s

/-- R25. -/
def execExtensionRequestCode (e : Engine) (o : Offer) (code : Byte) (s : State) : Out :=
  runOffer (codeClass e code == .extension && o.wellFormed) e code o s

/-- R25. -/
def execIgnoredRequestCode (e : Engine) (o : Offer) (code : Byte) (s : State) : Out :=
  runOffer (codeClass e code == .ignored && o.wellFormed) e code o s

/-- The request code of Test on each engine (R26). -/
def testCode : Engine → Byte
  | .panel => 0x0B | .light => 0x03 | .link => 0x08 | .power => 0x08

/-- R28 to R32. -/
def execTest (e : Engine) (o : Offer) (s : State) : Out := runOffer o.wellFormed e (testCode e) o s

/-- R33. -/
def execSetConditions (o : Offer) (s : State) : Out := runOffer o.wellFormed .power 0x07 o s

/-- The request code of Clear faults on each engine (R26). -/
def clearCode : Engine → Byte
  | .panel => 0x0A | .light => 0x04 | .link => 0x09 | .power => 0x09

/-- R186. -/
def execClearFaults (e : Engine) (o : Offer) (s : State) : Out := runOffer o.wellFormed e (clearCode e) o s

end Sys2Proof.Machine
end

