-- ==== Sys2Proof/Machine/PanelCommands.lean ====
section
/-! DEFINITION. The meanings of the panel commands (chapters 3 to 5). -/

namespace Sys2Proof.Machine

/-- R35, R36. -/
def execConfigurePanel (o : Offer) (s : State) : Out := runOffer o.wellFormed .panel 0x01 o s

/-- R45. -/
def execLoadWaveformSet (o : Offer) (s : State) : Out := runOffer o.wellFormed .panel 0x02 o s

/-- R47, R48. -/
def execWaveformLoadComplete (s : State) : Out := .next (event completeLoad s)

/-- R55 to R57. -/
def execUpdateRegion (o : Offer) (s : State) : Out := runOffer o.wellFormed .panel 0x03 o s

/-- R60. -/
def execCancelUpdate (o : Offer) (s : State) : Out := runOffer o.wellFormed .panel 0x04 o s

/-- R64. -/
def execEntryStart (pos : Fin 32) (s : State) : Out := .next (event (tryStart pos.1) s)

/-- R65. -/
def execBudgetClockExpiry (pos : Fin 32) (s : State) : Out := .next (event (expireBudgetClock pos.1) s)

/-- A lane is in a state. -/
def laneIn (st : LaneState) (n : Fin 16) (s : State) : Bool := (laneOf s n).state == st

/-- R67, when the lane is LOADING. -/
def loadingDone (n : Fin 16) (s : State) : State := if laneIn .loading n s then completeLoading n s else s

/-- R66, R67. -/
def execLoadingComplete (lane : Fin 16) (s : State) : Out := .next (event (loadingDone lane) s)

/-- R68, R69, when the panel frame clock runs. -/
def panelFrame (s : State) : State := if s.panel.frameClock.isSome then frameEvent s else s

/-- R68, R69. -/
def execPanelFrame (s : State) : Out := .next (event panelFrame s)

/-- R71, when the lane is CLOSING. -/
def closeDone (n : Fin 16) (s : State) : State := if laneIn .closing n s then completeClose n s else s

/-- R71. -/
def execCloseComplete (lane : Fin 16) (s : State) : Out := .next (event (closeDone lane) s)

/-- R81, R91. -/
def execStagePage (o : Offer) (s : State) : Out := runOffer o.wellFormed .panel 0x05 o s

/-- R82. -/
def execFreeSlot (o : Offer) (s : State) : Out := runOffer o.wellFormed .panel 0x06 o s

/-- R83. -/
def execRingReset (o : Offer) (s : State) : Out := runOffer o.wellFormed .panel 0x07 o s

/-- R84. -/
def execShowSlot (o : Offer) (s : State) : Out := runOffer o.wellFormed .panel 0x08 o s

/-- R86 to R89. -/
def execTurn (o : Offer) (s : State) : Out := runOffer o.wellFormed .panel 0x09 o s

/-- R90, when a place is free and the part is awake. -/
def queueHeldTurn (s : State) : State :=
  if !s.asleep && turnWaits s && queueHasRoom s then placeHeldTurn s else s

/-- R90. -/
def execHeldTurnQueued (s : State) : Out := .next (event queueHeldTurn s)

end Sys2Proof.Machine
end

