-- ==== Sys2Proof/Machine/LightCommands.lean ====
section
/-! DEFINITION. The meanings of the light commands (chapter 6). -/

namespace Sys2Proof.Machine

/-- R96, R97. -/
def execConfigureLight (o : Offer) (s : State) : Out := runOffer o.wellFormed .light 0x01 o s

/-- R98, R99. -/
def execSetLight (o : Offer) (s : State) : Out := runOffer o.wellFormed .light 0x02 o s

/-- R104, R105. -/
def execRampStep (s : State) : Out := .next (event rampStep s)

/-- R106. -/
def execAmbientSampleStart (s : State) : Out := .next (event startSample s)

/-- R106 to R108. -/
def execAmbientSampleAnswer (lux : Half) (s : State) : Out := .next (event (answerSample lux.toNat) s)

/-- R106, R110. -/
def execAmbientSampleTimeout (s : State) : Out := .next (event loseSample s)

end Sys2Proof.Machine
end

