-- ==== Sys2Proof/Machine/LinkCommands.lean ====
section
/-! DEFINITION. The meanings of the link commands (chapters 7 and 8). -/

namespace Sys2Proof.Machine

/-- R116, R117. -/
def execConfigureLink (o : Offer) (s : State) : Out := runOffer o.wellFormed .link 0x01 o s

/-- R118. -/
def execRadioOn (o : Offer) (s : State) : Out := runOffer o.wellFormed .link 0x02 o s

/-- R119. -/
def execRadioOff (o : Offer) (s : State) : Out := runOffer o.wellFormed .link 0x03 o s

/-- R121. -/
def execFrameStart (b : Byte) (s : State) : Out :=
  guarded (b != Config.delimiter) (event (receiveStart b) s)

/-- R122, step 3. -/
def execStationMismatch (b : Byte) (s : State) : Out :=
  guarded (b != Config.delimiter) (event (receiveIn ByteClass.isMismatch b) s)

/-- R122, step 4. -/
def execSizeOverflow (b : Byte) (s : State) : Out :=
  guarded (b != Config.delimiter) (event (receiveIn ByteClass.isOverflow b) s)

/-- R122, step 1. -/
def execFrameAbort (s : State) : Out := .next (event (receiveDelimiter true) s)

/-- R123. -/
def execFrameClose (s : State) : Out := .next (event (receiveDelimiter false) s)

/-- R125. -/
def execTakeHeldFrame (s : State) : Out := .next (event takeFrames s)

/-- R141. -/
def execBlockWriteComplete (s : State) : Out := .next (event completeBlockWrite s)

/-- R143. -/
def execQuietTimerExpiry (rec : Fin 8) (s : State) : Out := .next (event (quietExpiry rec) s)

/-- R145. -/
def execVerifyComplete (rec : Fin 8) (s : State) : Out := .next (event (completeVerify rec) s)

/-- R128. -/
def execFrameSendStart (s : State) : Out := .next (event startSending s)

/-- R128. -/
def execFrameSendEnd (s : State) : Out := .next (event endSending s)

/-- R134. -/
def execArmParcel (o : Offer) (s : State) : Out := runOffer o.wellFormed .link 0x04 o s

/-- R135. -/
def execCancelParcel (o : Offer) (s : State) : Out := runOffer o.wellFormed .link 0x05 o s

/-- R136. -/
def execReleaseParcel (o : Offer) (s : State) : Out := runOffer o.wellFormed .link 0x06 o s

/-- R137. -/
def execReportParcel (o : Offer) (s : State) : Out := runOffer o.wellFormed .link 0x07 o s

/-- R121. -/
def execHuntDelimiter (s : State) : Out := .next (event huntDelimiter s)

/-- R122. -/
def execDiscardDelimiter (s : State) : Out := .next (event discardDelimiter s)

/-- R122, step 2. -/
def execFrameDataByte (b : Byte) (s : State) : Out :=
  guarded (b != Config.delimiter) (event (receiveIn ByteClass.isData b) s)

end Sys2Proof.Machine
end

