-- ==== Sys2Proof/Machine/PowerCommands.lean ====
section
/-! DEFINITION. The meanings of the power commands (chapters 9 and 10). -/

namespace Sys2Proof.Machine

/-- R154, R155. -/
def execConfigurePower (o : Offer) (s : State) : Out := runOffer o.wellFormed .power 0x01 o s

/-- R158. -/
def execSetCharge (o : Offer) (s : State) : Out := runOffer o.wellFormed .power 0x02 o s

/-- R152, R153. -/
def execMeasurement (vb ib batteryTemp panelTemp : Int) (s : State) : Out :=
  .next (event (measure vb ib batteryTemp panelTemp) s)

/-- R168. -/
def execDoze (o : Offer) (s : State) : Out := runOffer o.wellFormed .power 0x03 o s

/-- R170. -/
def execSleep (o : Offer) (s : State) : Out := runOffer o.wellFormed .power 0x04 o s

/-- R171, when the download hold timer runs. -/
def holdExpiry (s : State) : State :=
  match s.power.sleep.hold with
  | .running _ => if atStep .draining s then expireHold s else s
  | .stopped | .expired => s

/-- R171. -/
def execDownloadHoldExpiry (s : State) : Out := .next (event holdExpiry s)

/-- R171, when DRAINING has come to its end. -/
def drainingEnd (s : State) : State := if drainingOver s then startImaging s else s

/-- R171, R172. -/
def execDrainingEnd (s : State) : Out := .next (event drainingEnd s)

/-- R172, when IMAGING has come to its end. -/
def imagingEnd (s : State) : State := if imagingOver s then startDarkening s else s

/-- R172, R173. -/
def execImagingEnd (s : State) : Out := .next (event imagingEnd s)

/-- R173, when DARKENING has come to its end. -/
def darkeningEnd (s : State) : State := if darkeningOver s then endDarkening s else s

/-- R173. -/
def execDarkeningEnd (s : State) : Out := .next (event darkeningEnd s)

/-- R174. -/
def execCancelSleep (o : Offer) (s : State) : Out := runOffer o.wellFormed .power 0x05 o s

/-- R180. -/
def execAcknowledgeInputs (o : Offer) (s : State) : Out := runOffer o.wellFormed .power 0x06 o s

/-- R179. -/
def execRawInputChange (i : Input) (level : Bool) (s : State) : Out := .next (event (rawChange i level) s)

/-- R179. -/
def execDebouncedChange (i : Input) (s : State) : Out := .next (event (debounceExpiry i) s)

/-- R177, R178. -/
def execWakeTimerExpiry (s : State) : Out := .next (event wakeTimerExpiry s)

/-- R169. -/
def execWakePulseEnd (s : State) : Out := .next (event endPulse s)

end Sys2Proof.Machine
end

