-- ==== Sys2Proof/Machine/Dispatch.lean ====
section
/-! DEFINITION. The dispatch: each command to its meaning. -/

namespace Sys2Proof.Machine

def exec (i : Instr) (s : State) : Host.Outcome State Fault Refusal :=
  match i with
  | .powerOnReset => Sys2Proof.Machine.execPowerOnReset s
  | .resetPin => Sys2Proof.Machine.execResetPin s
  | .resetWrite value => Sys2Proof.Machine.execResetWrite value s
  | .resetComplete => Sys2Proof.Machine.execResetComplete s
  | .hostWrite addr data => Sys2Proof.Machine.execHostWrite addr data s
  | .hostRead addr len => Sys2Proof.Machine.execHostRead addr len s
  | .noticeRead => Sys2Proof.Machine.execNoticeRead s
  | .resetRead => Sys2Proof.Machine.execResetRead s
  | .noticeWrite value => Sys2Proof.Machine.execNoticeWrite value s
  | .bundleReadComplete chain => Sys2Proof.Machine.execBundleReadComplete chain s
  | .barrierRelease chain => Sys2Proof.Machine.execBarrierRelease chain s
  | .queueRoomAdmit => Sys2Proof.Machine.execQueueRoomAdmit s
  | .listRoomRelease chain => Sys2Proof.Machine.execListRoomRelease chain s
  | .emptySlot o code => Sys2Proof.Machine.execEmptySlot o code s
  | .reservedEngine engine o code => Sys2Proof.Machine.execReservedEngine engine o code s
  | .noOp e o => Sys2Proof.Machine.execNoOp e o s
  | .reservedRequestCode e o code => Sys2Proof.Machine.execReservedRequestCode e o code s
  | .extensionRequestCode e o code => Sys2Proof.Machine.execExtensionRequestCode e o code s
  | .ignoredRequestCode e o code => Sys2Proof.Machine.execIgnoredRequestCode e o code s
  | .test e o => Sys2Proof.Machine.execTest e o s
  | .setConditions o => Sys2Proof.Machine.execSetConditions o s
  | .clearFaults e o => Sys2Proof.Machine.execClearFaults e o s
  | .configurePanel o => Sys2Proof.Machine.execConfigurePanel o s
  | .loadWaveformSet o => Sys2Proof.Machine.execLoadWaveformSet o s
  | .waveformLoadComplete => Sys2Proof.Machine.execWaveformLoadComplete s
  | .updateRegion o => Sys2Proof.Machine.execUpdateRegion o s
  | .cancelUpdate o => Sys2Proof.Machine.execCancelUpdate o s
  | .entryStart pos => Sys2Proof.Machine.execEntryStart pos s
  | .budgetClockExpiry pos => Sys2Proof.Machine.execBudgetClockExpiry pos s
  | .loadingComplete lane => Sys2Proof.Machine.execLoadingComplete lane s
  | .panelFrame => Sys2Proof.Machine.execPanelFrame s
  | .closeComplete lane => Sys2Proof.Machine.execCloseComplete lane s
  | .stagePage o => Sys2Proof.Machine.execStagePage o s
  | .freeSlot o => Sys2Proof.Machine.execFreeSlot o s
  | .ringReset o => Sys2Proof.Machine.execRingReset o s
  | .showSlot o => Sys2Proof.Machine.execShowSlot o s
  | .turn o => Sys2Proof.Machine.execTurn o s
  | .heldTurnQueued => Sys2Proof.Machine.execHeldTurnQueued s
  | .configureLight o => Sys2Proof.Machine.execConfigureLight o s
  | .setLight o => Sys2Proof.Machine.execSetLight o s
  | .rampStep => Sys2Proof.Machine.execRampStep s
  | .ambientSampleStart => Sys2Proof.Machine.execAmbientSampleStart s
  | .ambientSampleAnswer lux => Sys2Proof.Machine.execAmbientSampleAnswer lux s
  | .ambientSampleTimeout => Sys2Proof.Machine.execAmbientSampleTimeout s
  | .configureLink o => Sys2Proof.Machine.execConfigureLink o s
  | .radioOn o => Sys2Proof.Machine.execRadioOn o s
  | .radioOff o => Sys2Proof.Machine.execRadioOff o s
  | .frameStart b => Sys2Proof.Machine.execFrameStart b s
  | .stationMismatch b => Sys2Proof.Machine.execStationMismatch b s
  | .sizeOverflow b => Sys2Proof.Machine.execSizeOverflow b s
  | .frameAbort => Sys2Proof.Machine.execFrameAbort s
  | .frameClose => Sys2Proof.Machine.execFrameClose s
  | .takeHeldFrame => Sys2Proof.Machine.execTakeHeldFrame s
  | .blockWriteComplete => Sys2Proof.Machine.execBlockWriteComplete s
  | .quietTimerExpiry rec => Sys2Proof.Machine.execQuietTimerExpiry rec s
  | .verifyComplete rec => Sys2Proof.Machine.execVerifyComplete rec s
  | .frameSendStart => Sys2Proof.Machine.execFrameSendStart s
  | .frameSendEnd => Sys2Proof.Machine.execFrameSendEnd s
  | .armParcel o => Sys2Proof.Machine.execArmParcel o s
  | .cancelParcel o => Sys2Proof.Machine.execCancelParcel o s
  | .releaseParcel o => Sys2Proof.Machine.execReleaseParcel o s
  | .reportParcel o => Sys2Proof.Machine.execReportParcel o s
  | .configurePower o => Sys2Proof.Machine.execConfigurePower o s
  | .setCharge o => Sys2Proof.Machine.execSetCharge o s
  | .measurement vb ib batteryTemp panelTemp => Sys2Proof.Machine.execMeasurement vb ib batteryTemp panelTemp s
  | .doze o => Sys2Proof.Machine.execDoze o s
  | .sleep o => Sys2Proof.Machine.execSleep o s
  | .downloadHoldExpiry => Sys2Proof.Machine.execDownloadHoldExpiry s
  | .drainingEnd => Sys2Proof.Machine.execDrainingEnd s
  | .imagingEnd => Sys2Proof.Machine.execImagingEnd s
  | .darkeningEnd => Sys2Proof.Machine.execDarkeningEnd s
  | .cancelSleep o => Sys2Proof.Machine.execCancelSleep o s
  | .acknowledgeInputs o => Sys2Proof.Machine.execAcknowledgeInputs o s
  | .rawInputChange input level => Sys2Proof.Machine.execRawInputChange input level s
  | .debouncedChange input => Sys2Proof.Machine.execDebouncedChange input s
  | .wakeTimerExpiry => Sys2Proof.Machine.execWakeTimerExpiry s
  | .wakePulseEnd => Sys2Proof.Machine.execWakePulseEnd s
  | .huntDelimiter => Sys2Proof.Machine.execHuntDelimiter s
  | .discardDelimiter => Sys2Proof.Machine.execDiscardDelimiter s
  | .frameDataByte b => Sys2Proof.Machine.execFrameDataByte b s

end Sys2Proof.Machine
end

