-- ==== Sys2Proof/Machine/Tick.lean ====
section
/-! DEFINITION. The idle step: one millisecond passes (log 4). Every running timer and clock goes on, and the
works in progress get as far as the free values say (log 5). -/

namespace Sys2Proof.Machine

/-! ## Timers and clocks -/

/-- A timer that counts down, with its time left. -/
def down (t : Option Nat) : Option Nat := t.map fun n => n - 1

/-- A clock that counts up, with its time run. -/
def up (t : Option Nat) : Option Nat := t.map fun n => n + 1

/-- The quiet timer of a record (R142). -/
def Quiet.tick : Quiet → Quiet
  | .running t => .running (t - 1)
  | q => q

/-- The download hold timer (R171). -/
def HoldTimer.tick : HoldTimer → HoldTimer
  | .running t => .running (t - 1)
  | h => h

/-- The panel frame clock and the budget clocks (R65, R68). -/
def Panel.tick (p : Panel) : Panel :=
  { p with
    frameClock := down p.frameClock
    queue := p.queue.map fun e => { e with clock := up e.clock } }

/-- The ramp clock and the sample clocks (R104, R106). -/
def Light.tick (l : Light) : Light :=
  { l with ramp := down l.ramp, sampleClock := down l.sampleClock, sample := up l.sample }

/-- The quiet timers (R142). -/
def Link.tick (l : Link) : Link :=
  { l with parcels := l.parcels.map fun p => { p with quiet := p.quiet.tick } }

/-- The measurement clock, the hold and wake timers, the debounce timers (R152, R171, R177, R179). -/
def Power.tick (p : Power) : Power :=
  { p with
    nextMeasure := p.nextMeasure - 1
    sleep := { p.sleep with hold := p.sleep.hold.tick, wakeTimer := down p.sleep.wakeTimer }
    inputs := { p.inputs with timers := p.inputs.timers.map down } }

/-- One millisecond of every timer and clock. -/
def tickTimers (s : State) : State :=
  ((((s.withPanel s.panel.tick).withLight s.light.tick).withLink s.link.tick).withPower
    s.power.tick).withWakePulse (down s.wakePulse)

/-! ## Works in progress (log 5) -/

/-- The number of works that one idle step draws a free value for. -/
def workDraws : Nat := 32

/-- The free value that work `i` draws in an idle step. -/
def draw (s : State) (i : Nat) : Nat := Config.workProgress (s.free + i)

/-- R66: a lane in LOADING reads some rows, each as a whole (log 39). -/
def tickLane (k : Nat) (s : State) (n : Fin 16) : State :=
  if (laneOf s n).state = .loading then loadRows n (Config.workProgress (k + n.1)) s else s

/-- R144: a verify pass reads some bytes. -/
def tickVerify (k : Nat) (s : State) (r : Fin 8) : State := readVerify r (Config.workProgress (k + r.1)) s

/-- R10: a bundle read has read the bundle by now, or not yet; the draw 0 says not yet. -/
def tickRead (k : Nat) (s : State) (c : Fin 4) : State :=
  let r := readerOf s c
  match r.state, r.current, r.fetched with
  | .reading, some b, none =>
    if s.asleep ∨ Config.workProgress (k + c.1) = 0 then s
    else s.withReader c { r with fetched := some (readContents s.mem b.addr.toNat) }
  | _, _, _ => s

/-- R128: the transmitter sends some bytes, of a frame in progress or fill. -/
def tickTransmit (k : Nat) (s : State) : State := s.withLink (s.link.transmitUpTo (Config.workProgress k))

/-- Every work in progress goes on: lanes, the waveform load, the block write, the verify passes, the bundle reads
and the transmitter. -/
def tickWorks (s : State) : State :=
  let k := s.free
  let t := laneNumbers.foldl (tickLane k) s
  let t := copyLoad (Config.workProgress (k + 16)) t
  let t := copyBlock (Config.workProgress (k + 17)) t
  let t := recordNumbers.foldl (tickVerify (k + 18)) t
  let t := chainNumbers.foldl (tickRead (k + 26)) t
  let t := tickTransmit (k + 30) t
  t.withFree (k + workDraws)

/-- The idle step. -/
def tick (s : State) : State := tickWorks (tickTimers s)

end Sys2Proof.Machine
end

