-- ==== Sys2Proof/Machine/Step.lean ====
section
/-! DEFINITION. The step: the command at the front of the queue, or one idle millisecond. -/

namespace Sys2Proof.Machine

/-- The command at the front of the queue is taken and carried out; on an empty queue one millisecond passes
(log 4, log 25). -/
def step (s : State) : Host.Outcome State Fault Refusal :=
  match s.pending with
  | [] => .next (tick s)
  | c :: waiting => exec c (s.withPending waiting)

/-- The state with the command that a table word spells at the front of its queue. The table gives no bits,
so no word spells one (log 25). -/
def State.withFetchWord (s : State) (nbits w : Nat) : State :=
  match decodeTableWord nbits w with
  | some c => s.withPending (c :: s.pending)
  | none => s

end Sys2Proof.Machine
end

