-- ==== Sys2Proof/Safety.lean ====
section
/-! DEFINITION. What the statements speak of: which commands carry an offered slot, when nothing is left to do
inside the part, when an offered slot stands alone and is taken, and the invariants of the part. -/

namespace Sys2Proof.Machine

/-! ## Commands that carry a slot -/

/-- The slot that a command offers, when it offers one. -/
def offerOf : Instr → Option Offer
  | .powerOnReset => none
  | .resetPin => none
  | .resetWrite _ => none
  | .resetComplete => none
  | .hostWrite _ _ => none
  | .hostRead _ _ => none
  | .noticeRead => none
  | .resetRead => none
  | .noticeWrite _ => none
  | .bundleReadComplete _ => none
  | .barrierRelease _ => none
  | .queueRoomAdmit => none
  | .listRoomRelease _ => none
  | .emptySlot o _ => some o
  | .reservedEngine _ o _ => some o
  | .noOp _ o => some o
  | .reservedRequestCode _ o _ => some o
  | .extensionRequestCode _ o _ => some o
  | .ignoredRequestCode _ o _ => some o
  | .test _ o => some o
  | .setConditions o => some o
  | .clearFaults _ o => some o
  | .configurePanel o => some o
  | .loadWaveformSet o => some o
  | .waveformLoadComplete => none
  | .updateRegion o => some o
  | .cancelUpdate o => some o
  | .entryStart _ => none
  | .budgetClockExpiry _ => none
  | .loadingComplete _ => none
  | .panelFrame => none
  | .closeComplete _ => none
  | .stagePage o => some o
  | .freeSlot o => some o
  | .ringReset o => some o
  | .showSlot o => some o
  | .turn o => some o
  | .heldTurnQueued => none
  | .configureLight o => some o
  | .setLight o => some o
  | .rampStep => none
  | .ambientSampleStart => none
  | .ambientSampleAnswer _ => none
  | .ambientSampleTimeout => none
  | .configureLink o => some o
  | .radioOn o => some o
  | .radioOff o => some o
  | .frameStart _ => none
  | .stationMismatch _ => none
  | .sizeOverflow _ => none
  | .frameAbort => none
  | .frameClose => none
  | .takeHeldFrame => none
  | .blockWriteComplete => none
  | .quietTimerExpiry _ => none
  | .verifyComplete _ => none
  | .frameSendStart => none
  | .frameSendEnd => none
  | .armParcel o => some o
  | .cancelParcel o => some o
  | .releaseParcel o => some o
  | .reportParcel o => some o
  | .configurePower o => some o
  | .setCharge o => some o
  | .measurement _ _ _ _ => none
  | .doze o => some o
  | .sleep o => some o
  | .downloadHoldExpiry => none
  | .drainingEnd => none
  | .imagingEnd => none
  | .darkeningEnd => none
  | .cancelSleep o => some o
  | .acknowledgeInputs o => some o
  | .rawInputChange _ _ => none
  | .debouncedChange _ => none
  | .wakeTimerExpiry => none
  | .wakePulseEnd => none
  | .huntDelimiter => none
  | .discardDelimiter => none
  | .frameDataByte _ => none

/-- The engine and the defined request of a command, with its slot (R26). -/
def requestOf : Instr → Option (Engine × RequestName × Offer)
  | .powerOnReset => none
  | .resetPin => none
  | .resetWrite _ => none
  | .resetComplete => none
  | .hostWrite _ _ => none
  | .hostRead _ _ => none
  | .noticeRead => none
  | .resetRead => none
  | .noticeWrite _ => none
  | .bundleReadComplete _ => none
  | .barrierRelease _ => none
  | .queueRoomAdmit => none
  | .listRoomRelease _ => none
  | .emptySlot _ _ => none
  | .reservedEngine _ _ _ => none
  | .noOp _ _ => none
  | .reservedRequestCode _ _ _ => none
  | .extensionRequestCode _ _ _ => none
  | .ignoredRequestCode _ _ _ => none
  | .test e o => some (e, .test, o)
  | .setConditions o => some (.power, .setConditions, o)
  | .clearFaults e o => some (e, .clearFaults, o)
  | .configurePanel o => some (.panel, .configurePanel, o)
  | .loadWaveformSet o => some (.panel, .loadWaveformSet, o)
  | .waveformLoadComplete => none
  | .updateRegion o => some (.panel, .updateRegion, o)
  | .cancelUpdate o => some (.panel, .cancelUpdate, o)
  | .entryStart _ => none
  | .budgetClockExpiry _ => none
  | .loadingComplete _ => none
  | .panelFrame => none
  | .closeComplete _ => none
  | .stagePage o => some (.panel, .stagePage, o)
  | .freeSlot o => some (.panel, .freeSlot, o)
  | .ringReset o => some (.panel, .ringReset, o)
  | .showSlot o => some (.panel, .showSlot, o)
  | .turn o => some (.panel, .turn, o)
  | .heldTurnQueued => none
  | .configureLight o => some (.light, .configureLight, o)
  | .setLight o => some (.light, .setLight, o)
  | .rampStep => none
  | .ambientSampleStart => none
  | .ambientSampleAnswer _ => none
  | .ambientSampleTimeout => none
  | .configureLink o => some (.link, .configureLink, o)
  | .radioOn o => some (.link, .radioOn, o)
  | .radioOff o => some (.link, .radioOff, o)
  | .frameStart _ => none
  | .stationMismatch _ => none
  | .sizeOverflow _ => none
  | .frameAbort => none
  | .frameClose => none
  | .takeHeldFrame => none
  | .blockWriteComplete => none
  | .quietTimerExpiry _ => none
  | .verifyComplete _ => none
  | .frameSendStart => none
  | .frameSendEnd => none
  | .armParcel o => some (.link, .armParcel, o)
  | .cancelParcel o => some (.link, .cancelParcel, o)
  | .releaseParcel o => some (.link, .releaseParcel, o)
  | .reportParcel o => some (.link, .reportParcel, o)
  | .configurePower o => some (.power, .configurePower, o)
  | .setCharge o => some (.power, .setCharge, o)
  | .measurement _ _ _ _ => none
  | .doze o => some (.power, .doze, o)
  | .sleep o => some (.power, .sleep, o)
  | .downloadHoldExpiry => none
  | .drainingEnd => none
  | .imagingEnd => none
  | .darkeningEnd => none
  | .cancelSleep o => some (.power, .cancelSleep, o)
  | .acknowledgeInputs o => some (.power, .acknowledgeInputs, o)
  | .rawInputChange _ _ => none
  | .debouncedChange _ => none
  | .wakeTimerExpiry => none
  | .wakePulseEnd => none
  | .huntDelimiter => none
  | .discardDelimiter => none
  | .frameDataByte _ => none

/-! ## States in which nothing is left to do -/

/-- No internal step is left: the part is awake, no watched write waits, no freed place waits for a party
(R13), no reader can go on (R11, R14) and the sleep entry waits (R171 to R173). -/
def quiet (s : State) : Bool :=
  !s.asleep && s.reports.isEmpty && !(turnWaits s && queueHasRoom s)
    && !((admitted s).isSome && queueHasRoom s) && (readyReader s).isNone
    && !drainingOver s && !imagingOver s && !darkeningOver s

/-- The condition set and the limiting episode agree with the state (R21, R109), the ramp clock runs where a
duty differs from its limited duty (R104), and no status block is held. -/
def synced (s : State) : Bool :=
  s.conds.values == conditionsNow s && s.light.limiting == s.light.limitingNow
    && (s.light.ramp.isSome || (s.light.pw == s.light.lw && s.light.pc == s.light.lc)) && s.held.isNone

/-- The state of the part between two events, in RUN or DOZE, with no reset under way. -/
def calm (s : State) : Bool := quiet s && synced s && awakeState s && !s.port.resetting

/-! ## The rest of an event -/

/-- The rest of an event whose own effect has given `u`: the limiting episode follows that effect (R109), then come
the internal steps (R11, R13 to R16, R171 to R173), then what follows the state at the event's end (R21, R104, R109,
R165). -/
def concluded (u : State) : State := endEvent (settle Config.settleFuel (noteLimiting u))

/-- R109: a limiting episode has been evaluated between two states, with the light `l` that stood then. Its beginning
is an occurrence of GRANT_LIMITED, with its frame; and no other fault state changes. -/
def limitingEvaluated (s t : State) (l : Light) : Prop :=
  (∀ e : Engine, e ≠ .light → faultOf t e = faultOf s e)
    ∧ ((s.light.limiting = true ∨ (l.dw ≤ l.lw ∧ l.dc ≤ l.lc)) → faultOf t .light = faultOf s .light)
    ∧ (s.light.limiting = false → (l.lw < l.dw ∨ l.lc < l.dc) →
        (faultOf t .light).accrued = (faultOf s .light).accrued ||| FaultKind.grantLimited.flag
          ∧ (l.settings.grantLimited = false → (faultOf t .light).posted = (faultOf s .light).posted)
          ∧ (l.settings.grantLimited = true → (faultOf s .light).posted = none →
              (faultOf t .light).posted = some .grantLimited ∧ (faultOf t .light).frame.origin = none
                ∧ (faultOf t .light).frame.detail
                  = frameDetail [(2, l.dw), (2, l.dc), (2, l.lw), (2, l.lc), (2, l.il), (2, l.g)]
                ∧ t.notices.getLsbD 4 = true))

/-! ## Offered slots -/

/-- The request code of a defined request on an engine that has it (R26). -/
def requestCode (e : Engine) : RequestName → Byte
  | .configurePanel => 0x01
  | .loadWaveformSet => 0x02
  | .updateRegion => 0x03
  | .cancelUpdate => 0x04
  | .stagePage => 0x05
  | .freeSlot => 0x06
  | .ringReset => 0x07
  | .showSlot => 0x08
  | .turn => 0x09
  | .configureLight => 0x01
  | .setLight => 0x02
  | .configureLink => 0x01
  | .radioOn => 0x02
  | .radioOff => 0x03
  | .armParcel => 0x04
  | .cancelParcel => 0x05
  | .releaseParcel => 0x06
  | .reportParcel => 0x07
  | .configurePower => 0x01
  | .setCharge => 0x02
  | .doze => 0x03
  | .sleep => 0x04
  | .cancelSleep => 0x05
  | .acknowledgeInputs => 0x06
  | .setConditions => 0x07
  | .test => testCode e
  | .clearFaults => clearCode e

/-- The reader of the offer's chain, when it stands at the offered slot, keeps that slot and the offer's tag, no
barrier holds it, and its next step is not held (R11, R12). -/
def slotOpen (r : Reader) (x : Slot) (o : Offer) : Bool :=
  match r.current with
  | some b =>
    keepsSlot r x o && b.tag == o.tag && (!r.slots[o.slot].barrier || barrierOpen r b)
      && (r.hold == .none || (r.hold == .barrier && barrierOpen r b))
  | none => false

/-- The offered slot comes to its hand-over: the part is awake, no reset is under way, and either the reader of
the chain hands it over or the chain unit does not hold its bundle (log 7). -/
def reaches (s : State) (x : Slot) (o : Offer) : Bool :=
  o.wellFormed && !s.asleep && !s.port.resetting
    && if handingAt (readerOf s o.chain) o then slotOpen (readerOf s o.chain) x o else !chainHolds s o.bundle

/-- The slot of a defined request comes to its hand-over and its qualifier names a condition. -/
def presented (s : State) (e : Engine) (r : RequestName) (o : Offer) : Bool :=
  reaches s (offerSlot (engineField e) (requestCode e r) o) o && decide (o.qual.toNat ≤ 15)

/-- The engine takes the slot of a defined request with its qualifier true, and the request passes steps 1 to
3 of R27: no posted fault refuses it, its zero operand bytes are 0, and the power state allows it. -/
def offered (s : State) (e : Engine) (r : RequestName) (o : Offer) : Bool :=
  presented s e r o && condition s o.qual && !declines s r
    && ((faultOf s e).posted.isNone || r == .clearFaults) && zeroOperands e r o.ops && !sleepingRefusal s r

/-- The rest of the event of an offered slot whose hand-over has given `u`: a reader that stands at the slot
goes on to its next one (R11). -/
def carried (s : State) (o : Offer) (u : State) : State :=
  concluded (if handingAt (readerOf s o.chain) o then advance o.chain (note u) else note u)

/-- The outcome of an update written to the request it reports to, when there is one (R59). -/
def reportTo (rep : Option ReqRef) (st : OutcomeState) (reason : Reason) (detail : BitVec 112)
    (s : State) : State :=
  match rep with
  | some r => writeOutcome r st reason detail s
  | none => s

/-- Every operand byte outside some named fields holds 0 (R27, 12.2). -/
def zeroBut (ops : Operands) (named : Nat → Prop) : Prop := ∀ i, i < 20 → ¬ named i → opByte ops i = 0

/-- The bundle of the offered slot is one that the chain unit does not hold. -/
def standsAlone (s : State) (o : Offer) : Bool := (recorded s (offerRef o)).isNone

/-- Page memory is unchanged outside the sixteen bytes of the offered slot's outcome. -/
def memoryKeptBut (s t : State) (o : Offer) : Prop :=
  ∀ a, a < outcomeAddr (offerRef o) ∨ outcomeAddr (offerRef o) + 16 ≤ a → t.mem.read a = s.mem.read a

/-- An outcome reads FAILED HALTED with a detail, and page memory is otherwise as it was but for its first 64
bytes (R20, R73, R167). -/
def haltWritten (s t : State) (o : ReqRef) (detail : BitVec 112) : Prop :=
  t.mem.readBytes (outcomeAddr o) 16 = 7 :: 12 :: leBytes 14 detail.toNat
    ∧ ∀ a, 64 ≤ a → (a < outcomeAddr o ∨ outcomeAddr o + 16 ≤ a) → t.mem.read a = s.mem.read a

/-- A brownout has written an outcome FAILED HALTED with a detail: page memory and the chain unit's record are those
of that one write, but for the QUEUE_ROOM holds that end (R13, R73, R164), and the causes that the write raises are
in the NOTICE set. -/
def haltedInBrownout (s t : State) (o : ReqRef) (detail : BitVec 112) : Prop :=
  t.mem = (writeOutcome o .failed .halted detail s).mem
    ∧ (∀ k : Fin 4, readerOf t k = (readerOf (writeOutcome o .failed .halted detail s) k).endRoomHold)
    ∧ ∀ i : Nat, (writeOutcome o .failed .halted detail s).notices.getLsbD i = true → t.notices.getLsbD i = true

/-- Nothing that a reset stops is under way in the panel but lanes and entries: no load and no held turn waits. -/
def noLoadOrHeldTurn (s : State) : Bool := !s.panel.setState.isLoading && !turnWaits s

/-- The requests that write no outcome but their own and start no other work: every defined request apart
from those of the pending queue, the turn ring's entries, the waveform load and sleep entry, and Radio off. -/
def plainRequest : RequestName → Bool
  | .configurePanel | .freeSlot | .configureLight | .setLight | .configureLink | .radioOn | .armParcel
  | .cancelParcel | .releaseParcel | .reportParcel | .configurePower | .setCharge | .doze
  | .acknowledgeInputs | .setConditions | .test | .clearFaults => true
  | .loadWaveformSet | .updateRegion | .cancelUpdate | .stagePage | .ringReset | .showSlot | .turn
  | .radioOff | .sleep | .cancelSleep => false

/-! ## Invariants -/

/-- Page memory has its canonical form. -/
def memoryCanonical (s : State) : Bool := s.mem.wf

/-- R21, R22: conditions 0 to 7 are what their owners' state says. -/
def conditionsAgree (s : State) : Bool := s.conds.values == conditionsNow s

/-- The current that a pair of duties draws, in mA times 4095 (chapter 6). -/
def drawn (l : LightSettings) (w c : Nat) : Nat := w * l.ifw + c * l.ifc

/-- R101 to R103: the target duties draw no more than the light claim, and neither the limited duties nor the
present duties draw more than the light grant. -/
def lightBounded (s : State) : Bool :=
  decide (drawn s.light.settings s.light.dw s.light.dc ≤ s.light.il * 4095)
    && decide (drawn s.light.settings s.light.lw s.light.lc ≤ s.light.g * 4095)
    && decide (drawn s.light.settings s.light.pw s.light.pc ≤ s.light.g * 4095)

/-- R103, R162: the light grant is the budget less the committed current. -/
def grantAgrees (s : State) : Bool := s.light.g == s.power.budget - committed s

/-- R21: condition `i` after the writes of a Test of kind `k` with targets `p1` and `p2` and the given result,
from its value before (R29). A target of 0 names none. -/
def testedCondition (k : TestKind) (p1 p2 : Nat) (result old : Bool) (i : Nat) : Bool :=
  if i < 8 then old
  else
    match k with
    | .plain | .clearing => if i = p1 then result else if i = p2 then !result else old
    | .and => if (i = p1 ∨ i = p2) ∧ result = false then false else old
    | .or => if (i = p1 ∨ i = p2) ∧ result = true then true else old

/-- The condition set of an event that gives the values `v`: an event that changes a condition adds one to the
change count (R21). -/
def conditionsWith (s : State) (v : BitVec 16) : Conditions where
  values := v
  count := if v = s.conds.values then s.conds.count else s.conds.count + 1
  bumped := v != s.conds.values

/-- The commands after which the NOTICE set may have lost a cause: a NOTICE read, the resets, and the end of a
reset, at which the port serves the reads it held (R188). -/
def takesNotices : Instr → Bool
  | .noticeRead | .powerOnReset | .resetPin | .resetWrite _ | .resetComplete => true
  | _ => false

/-- A reader's own bookkeeping (1.4): it has a current bundle except in IDLE and STOPPED, its next slot is 0 to
3, and 0 in IDLE and STOPPED (log 33), its open-bundle list has at most 32 entries, and in AWAIT_LINK it may
leave its bundle (R14). -/
def readerSound (r : Reader) : Bool :=
  (r.state == .idle || r.state == .stopped) == r.current.isNone && decide (r.next ≤ 3)
    && (r.current.isSome || r.next == 0)
    && decide (r.openList.length ≤ Config.listRoom)
    && (r.state != .awaitLink || r.current.all (mayLeave r))

/-- R5, R10: the readers are sound, and the bundles that the chain unit holds stand at acceptable addresses and
do not overlap. -/
def readersSound (s : State) : Prop :=
  (∀ k : Fin 4, readerSound (readerOf s k) = true)
    ∧ (∀ b ∈ heldBundles s,
        b.addr.toNat % 32 = 0 ∧ b.addr.toNat ≤ Config.lastBundle ∧ Config.hostAreaStart ≤ b.addr.toNat)
    ∧ (heldBundles s).Pairwise fun a b => bundlesOverlap a.addr b.addr = false

/-- R39, R45: a lane is not FREE only while the waveform set is VALID, and the rectangles of two lanes that are
not FREE do not meet. -/
def lanesSound (s : State) : Prop :=
  (allLanesFree s.panel = true ∨ s.panel.setState.isValid = true)
    ∧ ∀ i j : Fin 16, i ≠ j → (laneOf s i).isFree = false → (laneOf s j).isFree = false →
        (laneOf s i).rect.meets (laneOf s j).rect = false

/-- R155 to R159: the gauge's full charge is that of the capacity, its charge lies between 0 and full, and its
state of charge is what the two give. -/
def gaugeSound (s : State) : Bool :=
  s.power.gauge.qfull == s.power.settings.capacity * 3600000
    && decide (s.power.gauge.qr ≤ s.power.gauge.qfull)
    && s.power.gauge.soc == socOf s.power.gauge.qr s.power.gauge.qfull

/-- The panel is at rest: every lane is FREE, the queue is empty, and no held turn waits for a place of it (R90). -/
def panelRests (s : State) : Bool := allLanesFree s.panel && s.panel.queue.isEmpty && !turnWaits s

/-- The link is at rest: the rail is OFF, and no record is FILLING or VERIFYING. -/
def linkRests (s : State) : Bool :=
  !s.link.rail && s.link.parcels.toList.all fun p => p.state != .filling && p.state != .verifying

/-- The dark hold is in force with both limited duties 0 (R111). -/
def darkHeld (s : State) : Bool := s.light.dark && s.light.lw == 0 && s.light.lc == 0

/-- R172: what stands in the panel during IMAGING: the sleep image alone, in the queue or in its lane, or nothing. -/
def imagingSound (s : State) : Bool :=
  !turnWaits s &&
    match s.power.sleep.image with
    | .absent => true
    | .queued => allLanesFree s.panel && s.panel.queue.length == 1 && s.panel.queue.all fun e => e.origin.isSleep
    | .inLane n => s.panel.queue.isEmpty && laneNumbers.all fun m => m == n || (laneOf s m).isFree
    | .over => allLanesFree s.panel && s.panel.queue.isEmpty

/-- R119, R167, R171 to R173: SLEEP is held at rest. In SLEEP the panel and the link are at rest and both present
duties are 0; the two last steps of sleep entry have got as far as R172 and R173 say; the return state is RUN or
DOZE; and no frame is HELD while the rail is OFF. -/
def sleepSound (s : State) : Bool :=
  (s.link.rail || s.link.fifo.isEmpty) && (s.power.returnState == .run || s.power.returnState == .doze)
    && (!atStep .imaging s || imagingSound s)
    && (!atStep .darkening s || (panelRests s && linkRests s && darkHeld s))
    && (!s.asleep || (panelRests s && linkRests s && darkHeld s && s.light.pw == 0 && s.light.pc == 0))

/-- R58, R90: the queue holds at most 32 entries, and a QUEUE_FULL held turn exists only while it holds them all. -/
def queueSound (s : State) : Bool :=
  decide (s.panel.queue.length ≤ 32) && (!turnWaits s || s.panel.queue.length == 32)

/-! ## The changes of the power state (R167) -/

/-- The resets (R3). -/
def resets : Instr → Bool
  | .powerOnReset | .resetPin | .resetWrite _ => true
  | _ => false

/-- The commands that can bring a wake event: a host access, an input, and the wake timer (R2, R177). -/
def canWake : Instr → Bool
  | .hostWrite _ _ | .hostRead _ _ | .noticeRead | .resetRead | .noticeWrite _ | .debouncedChange _
  | .wakeTimerExpiry => true
  | _ => false

/-- The changes of R167 that one hand-over or one internal step of an event can make, from `s` to `u`: Doze, the
start of sleep entry, its end without SLEEP, and the end of DARKENING. -/
def powerMove (s u : State) : Prop :=
  u.power.state = s.power.state
    ∨ (s.power.state = .run ∧ u.power.state = .doze)
    ∨ ((s.power.state = .run ∨ s.power.state = .doze) ∧ u.power.state = .sleepPending
        ∧ u.power.returnState = s.power.state)
    ∨ (s.power.state = .sleepPending ∧ u.power.state = s.power.returnState ∧ u.power.sleep.step = none)
    ∨ (darkeningOver s = true ∧ u.power.state = .sleep ∧ u.power.mark = s.power.mark)

end Sys2Proof.Machine
end

