-- ==== Sys2Proof/Certificates/Slice0/Obligations.lean ====
section
/-! DEFINITION. The statements about the ZE-412 for the provers. Where a command's own effect is followed by
more in the same event (readers that go on, freed places, sleep steps), the statement gives the state `u` that
the effect leaves, and `concluded u` is the state at the event's end. -/

open Sys2Proof Sys2Proof.Machine

/-! ## The step, reset and the invariants -/

/-- The command at the front of the queue is carried out on the state with the queue's rest. The queue is the
model's own (log 25). -/
def Obligations.StepRunsFront : Prop :=
  ∀ (c : Instr) (waiting : List Instr) (s : State),
    s.pending = c :: waiting → step s = exec c (s.withPending waiting)

/-- After a power-on reset the settings, the ring, the light with its duties, claim and grant, the receiver, the
gauge, the budget, the power state with its sleep and input state, the readers, the faults and the notices hold the
values that their chapters give. That the power-on reset finds the raw input levels low is the model's choice
(log 12). -/
def Obligations.ResetHoldsSpecValues : Prop :=
  State.reset.panel.settings = ⟨1024, 768, 20, 2, 30, false, false, ⟨false, false, false, false⟩⟩
    ∧ State.reset.panel.wholePanel = true ∧ State.reset.panel.uncertain = []
    ∧ State.reset.panel.setState = .absent ∧ State.reset.panel.lastTemp = 20
    ∧ State.reset.panel.queue = [] ∧ allLanesFree State.reset.panel = true
    ∧ State.reset.panel.ring.current = 0 ∧ State.reset.panel.ring.dir = .next
    ∧ State.reset.panel.ring.held = none ∧ (∀ i : Fin 8, State.reset.panel.ring.slots[i].tag = .empty)
    ∧ State.reset.light.settings = ⟨40, 40, 64, [(0, 500), (1000, 0)], 30, false, false⟩
    ∧ State.reset.light.auto = false ∧ State.reset.light.level = 0 ∧ State.reset.light.warmth = 50
    ∧ State.reset.light.lux = 0 ∧ State.reset.light.ramp = none
    ∧ State.reset.link.settings = ⟨1, true, 8, 4, 300, 0⟩ ∧ State.reset.link.rail = false
    ∧ State.reset.link.receiver.state = .hunt ∧ State.reset.link.fifo = []
    ∧ (∀ r : Fin 8, State.reset.link.parcels[r].state = .free)
    ∧ State.reset.power.settings.vfloor = 3300 ∧ State.reset.power.settings.imax = 800
    ∧ State.reset.power.gauge.calibrated = false ∧ State.reset.power.state = .run
    ∧ (∀ k : Fin 4, State.reset.readers[k].state = .idle ∧ State.reset.readers[k].openList = []
        ∧ State.reset.readers[k].faultCause = .none)
    ∧ (∀ e : Fin 4, State.reset.faults[e].accrued = 0 ∧ State.reset.faults[e].posted = none)
    ∧ State.reset.conds.count = 0 ∧ State.reset.notices = 0 ∧ State.reset.pending = []
    ∧ State.reset.panel.band = none ∧ State.reset.panel.range = .inRange ∧ State.reset.panel.frameClock = none
    ∧ State.reset.light.dw = 0 ∧ State.reset.light.dc = 0 ∧ State.reset.light.il = 0 ∧ State.reset.light.g = 0
    ∧ State.reset.light.lw = 0 ∧ State.reset.light.lc = 0 ∧ State.reset.light.pw = 0 ∧ State.reset.light.pc = 0
    ∧ State.reset.light.limiting = false ∧ State.reset.light.lost = false ∧ State.reset.light.dark = false
    ∧ State.reset.light.sampleClock = some 500 ∧ State.reset.light.sample = none
    ∧ (∀ b : Fin 4, bufState State.reset.link b = .free) ∧ State.reset.link.outbound = []
    ∧ State.reset.link.sending = none ∧ State.reset.link.connected = false ∧ State.reset.link.signal = 0
    ∧ State.reset.link.accepted = 0 ∧ (∀ r : Fin 8, State.reset.link.parcels[r].quiet = .stopped)
    ∧ State.reset.power.settings
        = ⟨0, 200, 3300, 3100, 3350, 800, 50, 55, 150, false, false, false, 30, false, false, 0, .settle, 0⟩
    ∧ State.reset.power.gauge = ⟨0, 0, false, .none, 0⟩ ∧ State.reset.power.batteryLow = false
    ∧ State.reset.power.vb = 0 ∧ State.reset.power.ib = 0 ∧ State.reset.power.batteryTemp = 0
    ∧ State.reset.power.panelTemp = 0 ∧ State.reset.power.budget = 0 ∧ State.reset.power.radioClaim = 0
    ∧ State.reset.power.hot = false ∧ State.reset.power.shortfall = false ∧ State.reset.power.mark = false
    ∧ State.reset.power.measurements = 0 ∧ State.reset.power.nextMeasure = 250
    ∧ State.reset.power.returnState = .run ∧ State.reset.power.sleep.record = none
    ∧ State.reset.power.sleep.step = none ∧ State.reset.power.sleep.hold = .stopped
    ∧ State.reset.power.sleep.wakeTimer = none ∧ State.reset.power.sleep.doneFlag = .none
    ∧ State.reset.power.sleep.lastWake = .none ∧ State.reset.power.sleep.wakeCount = 0
    ∧ State.reset.power.sleep.cover = .none ∧ State.reset.power.inputs.closed = false
    ∧ State.reset.power.inputs.debounced = 0 ∧ State.reset.power.inputs.snapshot = 0
    ∧ (∀ i : Fin 6, State.reset.power.inputs.timers[i] = none)
    ∧ (∀ k : Fin 4, State.reset.readers[k].current = none ∧ State.reset.readers[k].hold = .none
        ∧ State.reset.readers[k].next = 0 ∧ State.reset.readers[k].retired = 0)
    ∧ (∀ e : Fin 4, State.reset.faults[e].count = 0 ∧ State.reset.faults[e].frame = ⟨none, none, 0, 0⟩)
    ∧ State.reset.conds.values = 0x0021

/-- The reset state meets the invariants. -/
def Obligations.InvariantsHoldAtReset : Prop :=
  memoryCanonical State.reset = true ∧ conditionsAgree State.reset = true
    ∧ lightBounded State.reset = true ∧ grantAgrees State.reset = true ∧ readersSound State.reset
    ∧ lanesSound State.reset ∧ gaugeSound State.reset = true ∧ sleepSound State.reset = true
    ∧ queueSound State.reset = true

/-- Every step, the idle one included (log 4), keeps page memory in its canonical form, which is the model's own
(log 1). -/
def Obligations.EveryStepKeepsMemoryCanonical : Prop :=
  ∀ s t : State, memoryCanonical s = true → step s = .next t → memoryCanonical t = true

/-- R103, R162: every step keeps the light's current within the budget less the committed claims: the grant is
that difference, and neither the limited nor the present duties draw more than the grant. -/
def Obligations.EveryStepKeepsLightWithinBudget : Prop :=
  ∀ s t : State, lightBounded s = true → grantAgrees s = true → step s = .next t →
    lightBounded t = true ∧ grantAgrees t = true
      ∧ drawn t.light.settings t.light.pw t.light.pc ≤ (t.power.budget - committed t) * 4095

/-- R21 to R23, R77, R80, R112, R126, R149, 2.1: what each condition is of its owner's state: ALWAYS, CHARGER,
BATTERY_LOW (the value that the power engine keeps, R22, R159), RADIO_UP, PARCEL_READY, RING_LOW, LIGHT_ON,
PANEL_BUSY, and the user conditions as last written. -/
def Clause.ConditionsAreOwners : Prop :=
  ∀ s : State,
    (conditionsNow s).getLsbD 0 = true
      ∧ (conditionsNow s).getLsbD 1 = s.power.inputs.debounced.getLsbD 3
      ∧ (conditionsNow s).getLsbD 2 = s.power.batteryLow
      ∧ ((conditionsNow s).getLsbD 3 = true ↔ s.link.connected = true ∧ s.link.rail = true)
      ∧ ((conditionsNow s).getLsbD 4 = true ↔ ∃ r, (parcelOf s r).state = .complete)
      ∧ ((conditionsNow s).getLsbD 5 = true ↔ s.panel.ring.ahead < s.panel.settings.lowWater)
      ∧ ((conditionsNow s).getLsbD 6 = true ↔ 0 < s.light.pw ∨ 0 < s.light.pc)
      ∧ ((conditionsNow s).getLsbD 7 = true ↔ (∃ n, (laneOf s n).state ≠ .free) ∨ s.panel.queue ≠ [])
      ∧ (∀ i, 8 ≤ i → (conditionsNow s).getLsbD i = s.conds.values.getLsbD i)
      ∧ (conditionsAgree s = true ↔ s.conds.values = conditionsNow s)

/-- R21, R22: after every step, conditions 0 to 7 are what their owners' state says, and what that is. -/
def Obligations.EveryStepKeepsConditionsAgreeing : Prop :=
  Clause.ConditionsAreOwners
    ∧ ∀ s t : State, conditionsAgree s = true → step s = .next t → conditionsAgree t = true

/-- R5, R10, R14, R18, 1.4: every step keeps the readers sound: each has a current bundle exactly when it is not IDLE
or STOPPED, its next slot is 0 to 3, its open-bundle list has at most 32 entries, AWAIT_LINK is entered only with a
bundle that may be left (R14, step 1), and the bundles that the chain unit holds stand at acceptable addresses and do
not overlap. That the next slot is 0 in IDLE and STOPPED, after a chain fault as after a reset, is the model's choice
(log 33). -/
def Obligations.EveryStepKeepsReadersSound : Prop :=
  ∀ s t : State, readersSound s → step s = .next t → readersSound t

/-- R39, R45: every step keeps the lanes sound: a lane runs only while the waveform set is VALID, and no two
running lanes hold rectangles that meet. -/
def Obligations.EveryStepKeepsLanesApart : Prop :=
  ∀ s t : State, lanesSound s → step s = .next t → lanesSound t

/-- R155 to R159: every step keeps the gauge sound: Qfull is that of the capacity, Qr lies between 0 and Qfull, and
SOC is what the two give. That a part reset keeps SOC with Qr and Qfull is the model's reading of 9.7 (log 14). -/
def Obligations.EveryStepKeepsGaugeSound : Prop :=
  ∀ s t : State, gaugeSound s = true → step s = .next t → gaugeSound t = true

/-- R119, R164, R167, R171 to R173: every step keeps SLEEP at rest. The part is in SLEEP only while every lane is FREE,
the queue is empty, the rail is OFF, no record is FILLING or VERIFYING, and both present duties are 0 (the last
paragraph of R173). What the steps of sleep entry have got to, which `sleepSound` says, is kept with it. A QUEUE_FULL
held turn of the state before waits for a full queue (R90). -/
def Obligations.EveryStepKeepsSleepAtRest : Prop :=
  ∀ s t : State, sleepSound s = true → queueSound s = true → step s = .next t →
    sleepSound t = true
      ∧ (t.power.state = .sleep →
          (∀ n, (laneOf t n).state = .free) ∧ t.panel.queue = [] ∧ t.link.rail = false
            ∧ (∀ r, (parcelOf t r).state ≠ .filling ∧ (parcelOf t r).state ≠ .verifying)
            ∧ t.light.pw = 0 ∧ t.light.pc = 0)

/-- R54, R58, R89, R90: every step keeps the queue at 32 entries at most, and a QUEUE_FULL held turn only while it holds
them all: the first place that an entry leaves is given to the held turn in the same event. -/
def Obligations.EveryStepKeepsHeldTurnWaiting : Prop :=
  ∀ s t : State, sleepSound s = true → queueSound s = true → step s = .next t → queueSound t = true

/-- R188: a cause stays in the NOTICE set until a NOTICE read or a reset. -/
def Obligations.NoticesStayUntilTaken : Prop :=
  ∀ (c : Instr) (s t : State), takesNotices c = false → exec c s = .next t →
    ∀ i : Nat, s.notices.getLsbD i = true → t.notices.getLsbD i = true

/-! ## The end of an event -/

/-- R21, R104, R109, R165: what the end of an event does. The conditions and the limiting episode follow the
state, the ramp clock starts where a present duty differs from its limited duty, an event that changes a
condition adds one to the change count, and nothing else changes but what an occurrence of GRANT_LIMITED does
to the light engine's fault state and to the notices. That the conditions follow at the end of an event is the model's
choice (log 10), and so is where the episode follows (log 11). -/
def Clause.EventEndSetsFollowers : Prop :=
  ∀ u : State,
    (endEvent u).conds.values = conditionsNow u
      ∧ (endEvent u).conds.count
          = (if conditionsNow u = u.conds.values ∨ u.conds.bumped = true then u.conds.count
             else u.conds.count + 1)
      ∧ (endEvent u).light = { u.light with
          limiting := u.light.limitingNow
          ramp :=
            if u.light.ramp = none ∧ u.asleep = false ∧ (u.light.pw ≠ u.light.lw ∨ u.light.pc ≠ u.light.lc)
            then some 10 else u.light.ramp }
      ∧ (endEvent u).mem = u.mem ∧ (endEvent u).readers = u.readers ∧ (endEvent u).reports = u.reports
      ∧ (endEvent u).panel = u.panel ∧ (endEvent u).link = u.link ∧ (endEvent u).power = u.power
      ∧ (endEvent u).port = u.port ∧ (endEvent u).free = u.free ∧ (endEvent u).pending = u.pending
      ∧ (∀ e : Engine, e ≠ .light → faultOf (endEvent u) e = faultOf u e)
      ∧ ((u.light.limitingNow = false ∨ u.light.limiting = true) →
          (endEvent u).faults = u.faults ∧ (endEvent u).notices = u.notices
            ∧ (endEvent u).wakePulse = u.wakePulse)
      ∧ (u.asleep = false → (endEvent u).held = none)

/-- R11, R13, R19: an event whose own effect leaves nothing for the readers, the queue or a sleep entry to go on
with ends there. -/
def Clause.QuietEventEndsAtOnce : Prop :=
  ∀ u : State, quiet u = true → concluded u = endEvent u

/-- R109: the limiting episode follows an event's own effect before a reader goes on in the event (log 11): its
beginning is an occurrence of GRANT_LIMITED that the reader's slot then meets. -/
def Clause.LimitingPrecedesReaders : Prop :=
  ∀ u : State,
    (u.light.limitingNow = true → u.light.limiting = false →
        concluded u
          = concluded (occur .grantLimited
              (frameDetail [(2, u.light.dw), (2, u.light.dc), (2, u.light.lw), (2, u.light.lc), (2, u.light.il),
                (2, u.light.g)])
              (u.withLight { u.light with limiting := true })))
      ∧ (u.light.limitingNow = false → concluded u = concluded (u.withLight { u.light with limiting := false }))
      ∧ (u.light.limitingNow = true ↔ u.light.dark = false ∧ (u.light.lw < u.light.dw ∨ u.light.lc < u.light.dc))

/-- R11, R13, R19, R21, R22, R104, R109, R165: the end of an event with what the conditions then are, the limiting
episode ahead of the readers (log 11), and the event that has nothing else to do. -/
def Obligations.EventEndFollowsState : Prop :=
  Clause.EventEndSetsFollowers ∧ Clause.QuietEventEndsAtOnce ∧ Clause.ConditionsAreOwners
    ∧ Clause.LimitingPrecedesReaders

/-! ## Resets and the memory port -/

/-- R20, and the reset rules of the engines: what a power-on reset leaves, whatever state it finds. The raw
input levels are the pins' own (log 12); the bytes of page memory beyond the anchor's first 64 are left open
(log 2). That the actions are all taken at the start of the reset, and that Vopen, H and Imax_eff are 0, are the
model's choices (logs 26 and 13). The port goes on holding the accesses that it held (R3, R20). -/
def Obligations.PowerOnResetLeavesResetState : Prop :=
  ∀ s : State, ∃ t, exec .powerOnReset s = .next t
    ∧ t.panel = Panel.reset ∧ t.light = Light.reset ∧ t.link = Link.reset
    ∧ t.power = Power.reset s.power.inputs.raw
    ∧ t.readers = Vector.replicate 4 Reader.reset ∧ t.reports = []
    ∧ t.faults = Vector.replicate 4 FaultState.empty ∧ t.notices = 0 ∧ t.wakePulse = none
    ∧ t.conds.values = (if s.power.inputs.raw.getLsbD 3 then 0x0023 else 0x0021) ∧ t.conds.count = 0
    ∧ (∀ a, a < 64 → t.mem.read a = 0)
    ∧ t.port.resetting = true ∧ t.port.waiting = s.port.waiting ∧ t.pending = s.pending

/-- R3, R20, R37, R44, R53, R74, R166, R167: a reset pin assertion and a write of any value to RESET are the
same part reset. It keeps what its chapters keep: the gauge with the capacity, and page memory but for the head
words, the spare bytes and the outcomes of requests that it stops. That SOC is kept with the gauge, that Vopen, H
and Imax_eff are 0, and that the actions are taken at the start of the reset are the model's choices (logs 14, 13
and 26). -/
def Clause.PartResetLeavesEngines : Prop :=
  ∀ (s : State) (v : Word), memoryCanonical s = true → exec (.resetWrite v) s = exec .resetPin s
    ∧ ∃ t, exec .resetPin s = .next t
      ∧ t.panel.settings = PanelSettings.reset ∧ t.panel.setState = .absent ∧ t.panel.band = none
      ∧ t.panel.queue = [] ∧ t.panel.lanes = Vector.replicate 16 Lane.free ∧ t.panel.ring = Ring.reset
      ∧ t.panel.frameClock = none ∧ t.panel.lastTemp = 20 ∧ t.panel.range = .inRange
      ∧ (resetGeometry s.panel.settings = false → t.panel.uncertain = [] ∧ t.panel.wholePanel = true)
      ∧ (resetGeometry s.panel.settings = true → allLanesFree s.panel = true →
          t.panel.uncertain = s.panel.uncertain ∧ t.panel.wholePanel = s.panel.wholePanel)
      ∧ t.light = Light.reset ∧ t.link = Link.reset
      ∧ t.power = { Power.reset s.power.inputs.raw with
          settings := { PowerSettings.reset with capacity := s.power.settings.capacity }
          gauge := { s.power.gauge with clamp := .none } }
      ∧ t.readers = Vector.replicate 4 Reader.reset ∧ t.reports = []
      ∧ t.faults = Vector.replicate 4 FaultState.empty ∧ t.notices = 0 ∧ t.wakePulse = none
      ∧ t.conds.values = (if s.power.inputs.raw.getLsbD 3 then 0x0023 else 0x0021) ∧ t.conds.count = 0
      ∧ (∀ a, a < 64 → t.mem.read a = 0)
      ∧ (s.panel.queue = [] → allLanesFree s.panel = true → s.panel.setState.isLoading = false →
          turnWaits s = false → s.power.state ≠ .sleepPending →
          ∀ a, 64 ≤ a → t.mem.read a = s.mem.read a)
      ∧ t.port.resetting = true ∧ t.port.waiting = s.port.waiting ∧ t.pending = s.pending

/-- R42, R44: under the reset geometry a part reset keeps the uncertain list and the whole-panel flag, and then
offers the rectangles of the lanes in DRIVING or CLOSING in increasing lane number: those that fit join the list,
and if one would be the 17th the list is emptied and the flag set. -/
def Clause.PartResetOffersHaltedRectangles : Prop :=
  ∀ (s t : State) (rects : List Rect),
    s.panel.settings.width = 1024 → s.panel.settings.height = 768 → s.panel.uncertain.length ≤ 16 →
    rects = ((List.finRange 16).filter fun n =>
        (laneOf s n).state = .driving ∨ (laneOf s n).state = .closing).map (fun n => (laneOf s n).rect) →
    exec .resetPin s = .next t →
    (s.panel.wholePanel = true → t.panel.uncertain = s.panel.uncertain ∧ t.panel.wholePanel = true)
      ∧ (s.panel.wholePanel = false → s.panel.uncertain.length + rects.length ≤ 16 →
          t.panel.uncertain = s.panel.uncertain ++ rects ∧ t.panel.wholePanel = false)
      ∧ (s.panel.wholePanel = false → 16 < s.panel.uncertain.length + rects.length →
          t.panel.uncertain = [] ∧ t.panel.wholePanel = true)

/-- R42, R72, R73, R90, R167: the outcomes that a part reset writes, where one piece of work that reports to a request
is under way: the update of a lane, an entry of the queue, a waveform load, a sleep entry, and a held turn, which waits
while the queue is full of entries that report to none, read FAILED HALTED. The
zero details of a load and of a Sleep, the detail of a held turn, the flag bits of the update detail, and the frames
and the marked count of a lane halted in LOADING or in a frame's period are the model's choices (logs 44, 21, 18
and 47). -/
def Clause.PartResetFailsStoppedWork : Prop :=
  ∀ (s t : State) (o : ReqRef), memoryCanonical s = true → exec .resetPin s = .next t → 0x400 ≤ o.bundle.toNat →
    (∀ (n : Fin 16) (l : Lane) (origin : EntryOrigin), noLoadOrHeldTurn s = true →
        s.power.state ≠ .sleepPending → s.panel.queue = [] → laneOf s n = l → l.isFree = false →
        (∀ m, m ≠ n → (laneOf s m).isFree = true) → l.origin = some origin → origin.isSleep = false →
        origin.report = some o →
        haltWritten s t o (outcomeDetail [(1, n.1), (1, l.mode.code), (1, l.band), (1, l.frameIndex),
          (4, l.marked), (2, l.rect.w), (2, l.rect.h),
          (1, bitsNat [l.promoted, l.clipped, decide ((l.state = .driving ∨ l.state = .closing)
            ∧ (s.panel.wholePanel = true ∨ s.panel.uncertain.length < 16))])]))
      ∧ (∀ e, noLoadOrHeldTurn s = true → s.power.state ≠ .sleepPending → allLanesFree s.panel = true →
          s.panel.queue = [e] → e.origin.isSleep = false → e.origin.report = some o →
          haltWritten s t o (outcomeDetail [(1, 255), (1, e.mode.code), (1, 0), (1, 0), (4, 0), (2, e.rect.w),
            (2, e.rect.h), (1, bitsNat [e.promoted, e.clipped, false])]))
      ∧ (∀ job, s.panel.setState = .loading job → job.rep = o → turnWaits s = false →
          s.power.state ≠ .sleepPending → allLanesFree s.panel = true → s.panel.queue = [] →
          haltWritten s t o 0)
      ∧ (noLoadOrHeldTurn s = true → allLanesFree s.panel = true → s.panel.queue = [] →
          s.power.state = .sleepPending → sleepRef s = some o → haltWritten s t o 0)
      ∧ (∀ d f former, s.panel.ring.held = some (.queueFull d f former (some o)) →
          s.panel.setState.isLoading = false → s.power.state ≠ .sleepPending → allLanesFree s.panel = true →
          (∀ e ∈ s.panel.queue, e.origin.report = none) →
          haltWritten s t o (outcomeDetail [(1, 255),
            (1, (s.panel.ring.slots[s.panel.ring.current]).mode.code), (1, 0), (1, 0), (4, 0),
            (2, s.panel.settings.width), (2, s.panel.settings.height), (1, 0)]))

/-- R3, R20, R37, R42, R44, R53, R72 to R74, R90, R166, R167: a part reset, with what it keeps and what it writes.
The model's choices in it: logs 13, 14, 18, 21, 26, 44 and 47. -/
def Obligations.PartResetLeavesResetState : Prop :=
  Clause.PartResetLeavesEngines ∧ Clause.PartResetOffersHaltedRectangles ∧ Clause.PartResetFailsStoppedWork

/-- R1, R4: a host write to a part that is awake. A byte in 0x0000000 to 0x000000F or 0x0000400 to 0x2FFFFFF is
written, every other byte is discarded, and the watched words it touches are reported. -/
def Obligations.HostWriteStoresWritableBytes : Prop :=
  ∀ (s : State) (addr : Word) (data : List Byte),
    memoryCanonical s = true → data ≠ [] → addr.toNat + data.length ≤ Config.pageMemorySize →
    s.port.resetting = false → s.asleep = false →
    ∃ m : Memory,
      exec (.hostWrite addr data) s
          = .next (concluded (((beginEvent s).withMem m).withReports
              (s.reports ++ watched s addr.toNat data.length)))
        ∧ (∀ x, m.read x =
            if addr.toNat ≤ x ∧ x < addr.toNat + data.length ∧ (x < 0x10 ∨ (0x400 ≤ x ∧ x < 0x3000000))
            then data.getD (x - addr.toNat) 0 else s.mem.read x)
        ∧ (calm s = true → watched s addr.toNat data.length = [] →
            exec (.hostWrite addr data) s = .next ((beginEvent s).withMem m))

/-- R1: a host read of a part that is awake returns the bytes of page memory and changes nothing. -/
def Clause.HostReadReturnsBytes : Prop :=
  ∀ (s : State) (addr : Word) (n : Nat),
    n ≠ 0 → addr.toNat + n ≤ Config.pageMemorySize → s.port.resetting = false → s.asleep = false →
    exec (.hostRead addr n) s
        = .next (concluded ((beginEvent s).withPort { s.port with returned := [pageBytes s addr.toNat n] }))
      ∧ (calm s = true →
          exec (.hostRead addr n) s
            = .next ((beginEvent s).withPort { s.port with returned := [pageBytes s addr.toNat n] }))

/-- R188, R169: a NOTICE read returns the set as four bytes and empties it; in DOZE it returns the part to
RUN. -/
def Clause.NoticeReadTakesCauses : Prop :=
  ∀ s : State, calm s = true →
    exec .noticeRead s = .next (((beginEvent s).withPort
      { s.port with returned := [leBytes 4 s.notices.toNat] }).withNotices 0 |>.withPower
        { s.power with state := .run })

/-- Chapter 1: a host access beyond page memory stops with the fault of its last byte (the model's choice, log
20), and one of no bytes is refused as ill-formed. -/
def Clause.AccessBeyondPageMemoryFaults : Prop :=
  ∀ (s : State) (addr : Word) (data : List Byte) (n : Nat),
    (data ≠ [] → Config.pageMemorySize < addr.toNat + data.length →
        exec (.hostWrite addr data) s = .fault (.outsidePageMemory (addr.toNat + data.length - 1)))
      ∧ (n ≠ 0 → Config.pageMemorySize < addr.toNat + n →
          exec (.hostRead addr n) s = .fault (.outsidePageMemory (addr.toNat + n - 1)))
      ∧ exec (.hostWrite addr []) s = .refused .illFormed ∧ exec (.hostRead addr 0) s = .refused .illFormed

/-- R1: outside the records of the status block, byte `i` of a host read is the byte that page memory holds there. That
the four spare bytes from 0x3FC on are among them is the model's choice (log 45). -/
def Clause.PageBytesAreMemory : Prop :=
  ∀ (s : State) (a n i : Nat), (pageBytes s a n).length = n
    ∧ (i < n → (a + i < 0x040 ∨ 0x3FC ≤ a + i) → (pageBytes s a n)[i]? = some (s.mem.read (a + i)))

/-- R3: RESET reads 0, and a host write to NOTICE is discarded. That RESET is read as four bytes is the model's
reading (log 32). -/
def Clause.PortRegistersServed : Prop :=
  ∀ (s : State) (v : Word), s.port.resetting = false → s.asleep = false →
    exec .resetRead s = .next (concluded ((beginEvent s).withPort { s.port with returned := [[0, 0, 0, 0]] }))
      ∧ exec (.noticeWrite v) s = .next (concluded (beginEvent s))
      ∧ (calm s = true →
          exec .resetRead s = .next ((beginEvent s).withPort { s.port with returned := [[0, 0, 0, 0]] })
            ∧ exec (.noticeWrite v) s = .next (beginEvent s))

/-- R8, R21, R113, R130, 12.4: the first records of the status block while none of its writes is held: the four
chain status records, the conditions, the light and the link status record. -/
def Clause.StatusBlockChainsConditionsLightLink : Prop :=
  ∀ s : State, s.held = none →
    (∀ k : Fin 4, pageBytes s (0x040 + 20 * k.1) 20
        = [(readerOf s k).state.code, (readerOf s k).hold.code] ++ leBytes 1 (readerOf s k).next
          ++ leBytes 1 (readerOf s k).openList.length
          ++ leBytes 4 (match (readerOf s k).current with | some b => b.addr.toNat | none => 0)
          ++ leBytes 4 (readerOf s k).faultAddr.toNat ++ [(readerOf s k).faultCause.code, 0, 0, 0]
          ++ leBytes 4 (readerOf s k).retired.toNat)
      ∧ pageBytes s 0x090 4 = leBytes 2 s.conds.values.toNat ++ leBytes 2 s.conds.count.toNat
      ∧ pageBytes s 0x094 24
        = leBytes 1 (if s.light.auto then 1 else 0)
          ++ leBytes 1 (bitsNat [s.light.limiting, s.light.lost, s.light.dark, s.light.ramp.isSome])
          ++ leBytes 2 s.light.level ++ leBytes 1 s.light.warmth ++ [0] ++ leBytes 2 s.light.dw
          ++ leBytes 2 s.light.dc ++ leBytes 2 s.light.il ++ leBytes 2 s.light.g ++ leBytes 2 s.light.lw
          ++ leBytes 2 s.light.lc ++ leBytes 2 s.light.pw ++ leBytes 2 s.light.pc ++ leBytes 2 s.light.lux
      ∧ pageBytes s 0x0AC 20
        = leBytes 1 (if s.link.rail then 1 else 0) ++ leBytes 1 s.link.receiver.state.code
          ++ leBytes 1 (bufState s.link 0).code ++ leBytes 1 (bufState s.link 1).code
          ++ leBytes 1 (bufState s.link 2).code ++ leBytes 1 (bufState s.link 3).code
          ++ leBytes 1 (s.link.fifo.length + if s.link.handling.isSome then 1 else 0)
          ++ leBytes 1 (if linkReady s.link then 1 else 0) ++ leBytes 1 s.link.outbound.length
          ++ leBytes 1 (s.link.outbound.filter fun f => f.place = .refuse).length
          ++ leBytes 1 (if s.link.sending.isSome then 1 else 0) ++ leBytes 1 (if s.link.connected then 1 else 0)
          ++ leBytes 1 s.link.signal ++ [s.link.settings.station]
          ++ leBytes 1 (if s.link.settings.filter then 1 else 0) ++ [0] ++ leBytes 2 s.power.radioClaim
          ++ leBytes 2 s.link.accepted.toNat

/-- R166, R181, 12.4: the power and the sleep status record. Vopen, H and Imax_eff before the first measurement,
whole seconds, the fields of an absent sleep record, the return state and the image flag follow logs 13, 16, 17, 37
and 53. -/
def Clause.StatusBlockPowerAndSleep : Prop :=
  ∀ (s : State) (p : Power) (z : SleepState), s.held = none → s.power = p → p.sleep = z →
    pageBytes s 0x0C0 48
        = leInt 2 p.vb ++ leInt 2 p.ib ++ leInt 1 p.batteryTemp ++ leInt 1 p.panelTemp
          ++ leBytes 1 (bitsNat [p.gauge.calibrated, p.hot, p.shortfall, p.mark]) ++ leBytes 1 p.gauge.clamp.code
          ++ leBytes 8 p.gauge.qr ++ leBytes 8 p.gauge.qfull ++ leBytes 2 p.gauge.soc
          ++ leBytes 2 p.settings.capacity ++ leInt 2 p.vopen ++ leBytes 4 p.h ++ leBytes 2 p.imaxEff
          ++ leBytes 2 p.budget ++ leBytes 2 (committed s) ++ leBytes 2 p.radioClaim ++ leBytes 2 s.light.g
          ++ leBytes 4 p.measurements.toNat
      ∧ pageBytes s 0x0F0 28
        = leBytes 1 p.state.code ++ leBytes 1 p.returnState.code ++ leBytes 1 (stepCode z.step)
          ++ (match z.record with
              | some r => leBytes 1 r.origin.code ++ leBytes 4 r.image.toNat ++ leBytes 1 r.mode.code
                  ++ leBytes 1 r.wakeSet.toNat ++ leBytes 2 r.timer
              | none => List.replicate 9 (0 : Byte))
          ++ leBytes 2 ((z.wakeTimer.getD 0 + 999) / 1000)
          ++ leBytes 2 (match z.hold with | .running t => (t + 999) / 1000 | .stopped | .expired => 0)
          ++ leBytes 1 (if p.state = .sleepPending then z.imageFlag.code else z.doneFlag.code)
          ++ leBytes 1 (if p.mark then 1 else 0) ++ leBytes 1 z.lastWake.code ++ leBytes 1 z.cover.code
          ++ leBytes 2 z.wakeCount.toNat ++ leBytes 1 p.inputs.snapshot.toNat
          ++ leBytes 1 (if p.inputs.closed then 1 else 0) ++ leBytes 1 p.inputs.debounced.toNat ++ [0, 0, 0]

/-- R52, R75, R79, R133, R187, 12.4: the ring, panel, lane and parcel status records and the fault records. The bytes
of the uncertain-list entries beyond the entry count are the model's choice (log 52), and so are the engine code of an
empty frame and the origin bytes of a frame without an origin (log 19). -/
def Clause.StatusBlockPanelParcelsFaults : Prop :=
  ∀ (s : State) (p : Panel), s.held = none → s.panel = p →
    pageBytes s 0x10C 8
        = leBytes 1 p.ring.current.1 ++ leBytes 1 p.ring.dir.code ++ leBytes 1 (heldCode p.ring.held)
          ++ leBytes 1 p.ring.ahead ++ leBytes 1 (if p.ring.ahead < p.settings.lowWater then 1 else 0) ++ [0, 0, 0]
      ∧ (∀ i : Fin 8, pageBytes s (0x114 + 8 * i.1) 8
          = leBytes 1 p.ring.slots[i].tag.code ++ leBytes 1 p.ring.slots[i].mode.code ++ [0, 0]
            ++ leBytes 4 p.ring.slots[i].label.toNat)
      ∧ pageBytes s 0x154 16
        = leBytes 1 p.setState.code ++ leBytes 1 (if p.setState = .valid then waveBands s.mem else 0)
          ++ leInt 1 (match p.band with | some b => (b : Int) | none => -1) ++ leInt 1 p.lastTemp
          ++ leBytes 1 p.range.code ++ leBytes 1 (if p.wholePanel then 1 else 0)
          ++ leBytes 1 p.uncertain.length ++ [0]
          ++ leBytes 4 (if p.setState = .valid then waveIdent s.mem else 0)
          ++ leBytes 2 p.settings.width ++ leBytes 2 p.settings.height
      ∧ (∀ j : Fin 16, pageBytes s (0x164 + 8 * j.1) 8
          = match p.uncertain[j.1]? with
            | some r => leBytes 2 r.x ++ leBytes 2 r.y ++ leBytes 2 r.w ++ leBytes 2 r.h
            | none => List.replicate 8 0)
      ∧ pageBytes s 0x1E4 4
        = leBytes 1 p.queue.length ++ leBytes 1 (p.queue.filter fun e => e.hold = .budget).length ++ [0, 0]
      ∧ (∀ (n : Fin 16) (l : Lane), laneOf s n = l → pageBytes s (0x1E8 + 16 * n.1) 16
          = leBytes 1 l.state.code ++ leBytes 1 (match l.origin with | some g => g.code | none => 0)
            ++ leBytes 1 l.mode.code ++ leBytes 1 l.band ++ leBytes 1 l.frameIndex ++ leBytes 1 l.frameCount
            ++ leBytes 2 l.claim ++ leBytes 2 l.rect.x ++ leBytes 2 l.rect.y ++ leBytes 2 l.rect.w
            ++ leBytes 2 l.rect.h)
      ∧ pageBytes s 0x2E8 4 = leBytes 1 (if parcelReady s.link then 1 else 0) ++ [0, 0, 0]
      ∧ (∀ (r : Fin 8) (q : Parcel), parcelOf s r = q → pageBytes s (0x2EC + 18 * r.1) 18
          = leBytes 1 q.state.code ++ [q.reason.code] ++ leBytes 1 (match q.fields with | some f => f.gaps | none => 0)
            ++ [(0 : Byte)] ++ leBytes 2 q.number.toNat
            ++ leBytes 2 (match q.fields with | some f => f.received | none => 0)
            ++ leBytes 2 (match q.fields with | some f => f.count | none => 0)
            ++ leBytes 4 (match q.fields with | some f => f.total | none => 0) ++ leBytes 4 q.buffer.toNat)
      ∧ (∀ (e : Engine) (f : FaultState), faultOf s e = f → pageBytes s (0x37C + 32 * (engineCode e - 1)) 32
          = leBytes 2 f.accrued.toNat ++ leBytes 1 (kindCode f.posted) ++ [f.count]
            ++ leBytes 1 (engineCode e) ++ leBytes 1 (kindCode f.frame.kind)
            ++ (match f.frame.origin with
                | some o => [(1 : Byte)] ++ leBytes 1 o.chain.1 ++ leBytes 1 o.slot.1 ++ [0]
                | none => ([0, 0, 0, 0] : List Byte))
            ++ leBytes 2 f.frame.accrued.toNat
            ++ leBytes 4 (match f.frame.origin with | some o => o.tag.toNat | none => 0)
            ++ leBytes 16 f.frame.detail.toNat)

/-- 12.4, 1.4, R51, R80, R93, 8.1, 10.1, R174: the codes that the records show. -/
def Clause.StatusCodes : Prop :=
  [ReaderState.idle, .reading, .handing, .awaitLink, .stopped].map ReaderState.code = [0, 1, 2, 3, 4]
    ∧ [HoldCause.none, .barrier, .queueRoom, .listRoom].map HoldCause.code = [0, 1, 2, 3]
    ∧ [ChainCause.none, .misaligned, .outside, .anchor, .inUse].map ChainCause.code = [0, 1, 2, 3, 4]
    ∧ (∀ b c, [RxState.hunt, .idle, .frame b, .discard c].map RxState.code = [0, 1, 2, 3])
    ∧ [BufState.free, .collecting, .held, .handling].map BufState.code = [0, 1, 2, 3]
    ∧ [Clamp.none, .atEmpty, .atFull].map Clamp.code = [0, 1, 2]
    ∧ [PowerState.run, .doze, .sleepPending, .sleep].map PowerState.code = [0, 1, 2, 3]
    ∧ [none, some SleepStep.draining, some .imaging, some .darkening].map stepCode = [0, 1, 2, 3]
    ∧ (∀ r, [SleepOrigin.none, .request r, .cover].map SleepOrigin.code = [0, 1, 2])
    ∧ [ImageFlag.none, .drawn, .skipped].map ImageFlag.code = [0, 1, 2]
    ∧ [WakeCause.none, .button, .coverOpen, .chargerChange, .radioWake, .timer, .hostAccess, .charger].map
        WakeCause.code = [0, 1, 2, 3, 4, 5, 6, 7]
    ∧ [CoverResult.none, .started, .refusedImage, .refusedState].map CoverResult.code = [0, 1, 2, 3]
    ∧ [Tag.empty, .ready, .shown].map Tag.code = [0, 1, 2] ∧ [Dir.next, .prev].map Dir.code = [0, 1]
    ∧ [Mode.settle, .tone, .crisp, .swift].map Mode.code = [0, 1, 2, 3]
    ∧ (∀ j, [SetState.absent, .loading j, .valid].map SetState.code = [0, 1, 2])
    ∧ [RangeState.inRange, .outLow, .outHigh].map RangeState.code = [0, 1, 2]
    ∧ [LaneState.free, .loading, .driving, .closing].map LaneState.code = [0, 1, 2, 3]
    ∧ (∀ r i q z, [EntryOrigin.request r, .ring i q, .sleep z].map EntryOrigin.code = [0, 1, 2])
    ∧ [ParcelState.free, .armed, .filling, .verifying, .complete, .failed].map ParcelState.code = [0, 1, 2, 3, 4, 5]
    ∧ [Engine.panel, .light, .link, .power].map engineCode = [1, 2, 3, 4]

/-- R8, R165, R177: an event that ends in SLEEP leaves the status block as the event that entered SLEEP wrote it, and
an event that ends awake shows it as the state stands. A wake leaves nothing held, so an event that wakes the part and
enters SLEEP again writes the block at its end. -/
def Clause.StatusBlockHeldInSleep : Prop :=
  ∀ (u : State) (a : Nat), 0x040 ≤ a → a < 0x3FC →
    (u.asleep = true → u.held = none → pageByte (endEvent u) a = pageByte ((endEvent u).withHeld none) a)
      ∧ (∀ bytes, u.asleep = true → u.held = some bytes → pageByte (endEvent u) a = bytes.getD (a - 0x040) 0)
      ∧ (u.asleep = false → (endEvent u).held = none)
      ∧ ∀ cause notice, (wake cause notice u).held = none

/-- R1, R3, R8, R21, R52, R75, R79, R113, R130, R133, R166, R169, R181, R187, R188, and log 20: reads of page
memory with the status block (logs 13, 16, 17, 19, 37, 45, 52 and 53), of NOTICE and of RESET (log 32), and accesses beyond
page memory. -/
def Obligations.HostReadsServed : Prop :=
  Clause.HostReadReturnsBytes ∧ Clause.NoticeReadTakesCauses ∧ Clause.AccessBeyondPageMemoryFaults
    ∧ Clause.PageBytesAreMemory ∧ Clause.PortRegistersServed ∧ Clause.StatusBlockChainsConditionsLightLink
    ∧ Clause.StatusBlockPowerAndSleep ∧ Clause.StatusBlockPanelParcelsFaults ∧ Clause.StatusCodes
    ∧ Clause.StatusBlockHeldInSleep

/-- R3: during a reset the port holds every host access, and the part does not act on it. -/
def Clause.ResetHoldsHostAccesses : Prop :=
  ∀ (s : State) (addr : Word) (data : List Byte) (n : Nat),
    s.port.resetting = true → quiet s = true → synced s = true →
    (data ≠ [] → addr.toNat + data.length ≤ Config.pageMemorySize →
        exec (.hostWrite addr data) s
          = .next ((beginEvent s).withPort ⟨true, s.port.waiting ++ [.write addr data], []⟩))
      ∧ (n ≠ 0 → addr.toNat + n ≤ Config.pageMemorySize →
          exec (.hostRead addr n) s
            = .next ((beginEvent s).withPort ⟨true, s.port.waiting ++ [.read addr n], []⟩))
      ∧ exec .noticeRead s = .next ((beginEvent s).withPort ⟨true, s.port.waiting ++ [.noticeRead], []⟩)
      ∧ exec .resetRead s = .next ((beginEvent s).withPort ⟨true, s.port.waiting ++ [.resetRead], []⟩)
      ∧ ∀ v, exec (.noticeWrite v) s
          = .next ((beginEvent s).withPort ⟨true, s.port.waiting ++ [.noticeWrite v], []⟩)

/-- R3: at the end of a reset the port serves the reads it held, in the order they arrived. -/
def Clause.ResetEndServesHeldReads : Prop :=
  ∀ (s : State) (reads : List (Word × Nat)),
    quiet s = true → synced s = true → s.port.resetting = true →
    s.port.waiting = reads.map (fun r => Access.read r.1 r.2) →
    exec .resetComplete s = .next ((beginEvent s).withPort
      ⟨false, [], reads.map fun r => pageBytes s r.1.toNat r.2⟩)

/-- R3: the end of a reset serves the accesses of every kind that the port held, one after the other in the order
they arrived. No write among them touches a watched word here. That each is an event of its own is the model's
reading (log 35). -/
def Clause.ResetEndServesInOrder : Prop :=
  ∀ s : State, quiet s = true → synced s = true → s.port.resetting = true →
    (∀ a d, Access.write a d ∈ s.port.waiting → watched s a.toNat d.length = []) →
    exec .resetComplete s = .next (s.port.waiting.foldl serve ((beginEvent s).withPort ⟨false, [], []⟩))

/-- R1, R3, R188: a write, a NOTICE read, a read, a read of RESET and a write to NOTICE held through a reset. The
bytes are written, the set is returned and taken, the read sees what was written before it, RESET reads 0, and
the write to NOTICE is discarded. -/
def Clause.ResetEndServesMixedAccesses : Prop :=
  ∀ (s : State) (a b : Word) (d : List Byte) (n : Nat) (v : Word),
    quiet s = true → synced s = true → memoryCanonical s = true → s.port.resetting = true →
    s.power.state = .run → s.port.waiting = [.write a d, .noticeRead, .read b n, .resetRead, .noticeWrite v] →
    watched s a.toNat d.length = [] →
    ∃ m : Memory,
      exec .resetComplete s = .next ((((beginEvent s).withMem m).withNotices 0).withPort
          ⟨false, [], [leBytes 4 s.notices.toNat, pageBytes (s.withMem m) b.toNat n, [0, 0, 0, 0]]⟩)
        ∧ ∀ x, m.read x =
            if a.toNat ≤ x ∧ x < a.toNat + d.length ∧ (x < 0x10 ∨ (0x400 ≤ x ∧ x < 0x3000000))
            then d.getD (x - a.toNat) 0 else s.mem.read x

/-- R3: a head word that is written while the port holds accesses starts its reader at the end of the reset. -/
def Clause.HeldHeadWriteStartsReader : Prop :=
  ∀ (s : State) (k : Fin 4) (a : Word),
    quiet s = true → synced s = true → memoryCanonical s = true → readersSound s → s.port.resetting = true →
    s.port.waiting = [.write (BitVec.ofNat 32 (4 * k.1)) (leBytes 4 a.toNat)] →
    (readerOf s k).headArmed = true → a ≠ 0 → checkBundle s a = .none →
    ∃ t, exec .resetComplete s = .next t ∧ (readerOf t k).state = .reading
      ∧ (readerOf t k).current = some ⟨a, 0, false, Vector.replicate 3 .pending⟩
      ∧ (∀ j, j ≠ k → readerOf t j = readerOf s j) ∧ t.mem.field (4 * k.1) 4 = a.toNat

/-- R3: the port holds host accesses during a reset and serves them in order at its end, each as an event of its
own (log 35); RESET is read as four bytes (log 32). -/
def Obligations.ResetHoldsAndServesAccesses : Prop :=
  Clause.ResetHoldsHostAccesses ∧ Clause.ResetEndServesHeldReads ∧ Clause.ResetEndServesInOrder
    ∧ Clause.ResetEndServesMixedAccesses ∧ Clause.HeldHeadWriteStartsReader

/-- R2, R104, R113, R177, R178: in SLEEP with the brownout mark clear, a host read wakes the part with cause
HOST_ACCESS and returns page memory as it stands after the wake event, with the ramp clock running where a duty
differs from its limited duty; a NOTICE read wakes it to RUN and returns the set with WAKE in it, and with FAULT
when the wake posts GRANT_LIMITED. That the access comes after the end of the wake event is the model's reading
(log 35), and so is that the sleep record is gone after the wake (log 16). -/
def Clause.HostReadWakesSleepingPart : Prop :=
  ∀ (s : State) (addr : Word) (n : Nat),
    n ≠ 0 → addr.toNat + n ≤ Config.pageMemorySize → s.port.resetting = false →
    s.asleep = true → s.power.mark = false →
    s.reports = [] → readyReader s = none → admitted s = none → turnWaits s = false →
    (∃ t, exec (.hostRead addr n) s = .next t
      ∧ t.power.state = (if s.power.settings.wakeToDoze then .doze else .run)
      ∧ t.power.sleep.lastWake = .hostAccess ∧ t.power.sleep.wakeCount = s.power.sleep.wakeCount + 1
      ∧ t.power.sleep.record = none ∧ t.power.sleep.wakeTimer = none ∧ t.power.nextMeasure = 250
      ∧ t.light.sampleClock = some 500 ∧ t.light.dark = false ∧ t.notices.getLsbD 8 = true
      ∧ t.wakePulse.isSome = true ∧ t.held = none ∧ t.port.returned = [pageBytes t addr.toNat n]
      ∧ t.light.ramp.isSome = (s.light.ramp.isSome || (t.light.pw != t.light.lw || t.light.pc != t.light.lc))
      ∧ t.mem = s.mem)
    ∧ ∃ t w, exec .noticeRead s = .next t ∧ t.power.state = .run ∧ t.notices = 0
      ∧ t.port.returned = [leBytes 4 w.toNat]
      ∧ (∀ i : Nat, i ≠ 4 → w.getLsbD i = (s.notices ||| Cause.wake.flag).getLsbD i)
      ∧ (s.light.settings.grantLimited = false → w = s.notices ||| Cause.wake.flag)
      ∧ t.power.sleep.lastWake = .hostAccess ∧ t.power.sleep.wakeCount = s.power.sleep.wakeCount + 1
      ∧ t.mem = s.mem

/-- R2, R165: in SLEEP with the brownout mark set, a host read is served after the held status block is
written, and the part stays in SLEEP. -/
def Clause.HostReadInMarkedSleep : Prop :=
  ∀ (s : State) (addr : Word) (n : Nat),
    n ≠ 0 → addr.toNat + n ≤ Config.pageMemorySize → s.port.resetting = false →
    s.asleep = true → s.power.mark = true →
    ∃ t, exec (.hostRead addr n) s = .next t ∧ t.power = s.power ∧ t.mem = s.mem ∧ t.readers = s.readers
      ∧ t.port.returned
          = [pageBytes ((beginEvent s).withHeld (some (statusBytes (beginEvent s)))) addr.toNat n]

/-- R1, R2, R4, R19: a host write in SLEEP. With the mark clear it wakes the part and is stored; with the mark set
it is stored, the watched words that it touches are reported for the next wake, and the part stays in SLEEP. No
watched word is touched in the first case. -/
def Clause.HostWriteInSleep : Prop :=
  ∀ (s : State) (addr : Word) (data : List Byte),
    memoryCanonical s = true → data ≠ [] → addr.toNat + data.length ≤ Config.pageMemorySize →
    s.port.resetting = false → s.asleep = true →
    (s.power.mark = false → s.reports = [] → readyReader s = none → admitted s = none → turnWaits s = false →
        watched s addr.toNat data.length = [] →
        ∃ t, exec (.hostWrite addr data) s = .next t
          ∧ t.power.state = (if s.power.settings.wakeToDoze then .doze else .run)
          ∧ t.power.sleep.lastWake = .hostAccess ∧ t.power.sleep.wakeCount = s.power.sleep.wakeCount + 1
          ∧ t.notices.getLsbD 8 = true ∧ t.readers = s.readers ∧ t.port.returned = []
          ∧ (∀ x, t.mem.read x =
              if addr.toNat ≤ x ∧ x < addr.toNat + data.length ∧ (x < 0x10 ∨ (0x400 ≤ x ∧ x < 0x3000000))
              then data.getD (x - addr.toNat) 0 else s.mem.read x))
      ∧ (s.power.mark = true →
        ∃ t, exec (.hostWrite addr data) s = .next t ∧ t.power = s.power ∧ t.readers = s.readers
          ∧ t.reports = s.reports ++ watched s addr.toNat data.length ∧ t.port.returned = []
          ∧ (∀ x, t.mem.read x =
              if addr.toNat ≤ x ∧ x < addr.toNat + data.length ∧ (x < 0x10 ∨ (0x400 ≤ x ∧ x < 0x3000000))
              then data.getD (x - addr.toNat) 0 else s.mem.read x))

/-- R2, R3: accesses to the port's registers in SLEEP. With the mark clear a read of RESET and a write to NOTICE
wake the part, and the write takes no cause; with the mark set the part stays in SLEEP. RESET is read as four
bytes (log 32). -/
def Clause.PortRegistersInSleep : Prop :=
  ∀ (s : State) (v : Word), s.port.resetting = false → s.asleep = true →
    (s.power.mark = false → s.reports = [] → readyReader s = none → admitted s = none → turnWaits s = false →
        (∃ t, exec .resetRead s = .next t ∧ t.port.returned = [[0, 0, 0, 0]]
          ∧ t.power.state = (if s.power.settings.wakeToDoze then .doze else .run)
          ∧ t.power.sleep.lastWake = .hostAccess ∧ t.notices.getLsbD 8 = true ∧ t.mem = s.mem)
        ∧ ∃ t, exec (.noticeWrite v) s = .next t ∧ t.port.returned = []
          ∧ t.power.state = (if s.power.settings.wakeToDoze then .doze else .run)
          ∧ t.power.sleep.lastWake = .hostAccess ∧ t.mem = s.mem
          ∧ (∀ i : Nat, (s.notices ||| Cause.wake.flag).getLsbD i = true → t.notices.getLsbD i = true))
      ∧ (s.power.mark = true →
        (∃ t, exec .resetRead s = .next t ∧ t.port.returned = [[0, 0, 0, 0]] ∧ t.power = s.power ∧ t.mem = s.mem)
        ∧ (∃ t, exec (.noticeWrite v) s = .next t ∧ t.port.returned = [] ∧ t.power = s.power ∧ t.mem = s.mem
          ∧ (∀ i : Nat, s.notices.getLsbD i = true → t.notices.getLsbD i = true))
        ∧ ∃ t w, exec .noticeRead s = .next t ∧ t.power = s.power ∧ t.mem = s.mem
          ∧ t.port.returned = [leBytes 4 w] ∧ w = s.notices.toNat)

/-- R4, R19: a watched head write reported in SLEEP is taken at the next wake: its reader, when its comparator is
still armed, enters READING at the head word; else the report is disregarded. -/
def Clause.WakeTakesReports : Prop :=
  ∀ (s : State) (k : Fin 4), s.asleep = true → s.power.sleep.wakeTimer.isSome = true →
    s.reports = [(k, .head)] → readyReader s = none → admitted s = none → turnWaits s = false →
    ((readerOf s k).headArmed = true → headWord s k ≠ 0 → checkBundle s (headWord s k) = .none →
        (readerOf s k).current = none →
        ∃ t, exec .wakeTimerExpiry s = .next t ∧ t.reports = [] ∧ t.mem = s.mem
          ∧ readerOf t k = { readerOf s k with
              state := .reading, hold := .none, fetched := none
              current := some ⟨headWord s k, 0, false, Vector.replicate 3 .pending⟩ }
          ∧ ∀ j, j ≠ k → readerOf t j = readerOf s j)
      ∧ ((readerOf s k).headArmed = false →
        ∃ t, exec .wakeTimerExpiry s = .next t ∧ t.reports = [] ∧ t.mem = s.mem ∧ t.readers = s.readers)

/-- R1 to R4, R19, R104, R113, R165, R177, R178, R188: host accesses to a part in SLEEP, and what a wake takes of
them. The model's readings in it: logs 32 and 35. -/
def Obligations.HostAccessInSleep : Prop :=
  Clause.HostReadWakesSleepingPart ∧ Clause.HostReadInMarkedSleep ∧ Clause.HostWriteInSleep
    ∧ Clause.PortRegistersInSleep ∧ Clause.WakeTakesReports

/-! ## Chain readers -/

/-- R5: a bundle address is acceptable when it passes all four checks, and the first that fails names the
cause. The checks look at the bundles that the chain unit holds and at nothing else. An address that fails a
check stops its reader with that cause and raises FAULT. -/
def Obligations.BundleAddressChecks : Prop :=
  ∀ (s : State) (a : Word),
    (checkBundle s a = .none ↔
        a.toNat % 32 = 0 ∧ a.toNat ≤ 0x2FFFF60 ∧ 0x400 ≤ a.toNat
          ∧ ∀ b ∈ heldBundles s, ∀ i j : Nat, i < 160 → j < 160 → a.toNat + i ≠ b.addr.toNat + j)
      ∧ (checkBundle s a = .misaligned ↔ a.toNat % 32 ≠ 0)
      ∧ (checkBundle s a = .outside ↔ a.toNat % 32 = 0 ∧ 0x2FFFF60 < a.toNat)
      ∧ (checkBundle s a = .anchor ↔ a.toNat % 32 = 0 ∧ a.toNat < 0x400)
      ∧ (checkBundle s a = .inUse ↔
          a.toNat % 32 = 0 ∧ a.toNat ≤ 0x2FFFF60 ∧ 0x400 ≤ a.toNat
            ∧ ∃ b ∈ heldBundles s, ∃ i j : Nat, i < 160 ∧ j < 160 ∧ a.toNat + i = b.addr.toNat + j)
      ∧ (∀ k : Fin 4, (readerOf s k).current = none → checkBundle s a ≠ .none →
          (readerOf (enterReading k a s) k).state = .stopped
            ∧ (readerOf (enterReading k a s) k).faultAddr = a
            ∧ (readerOf (enterReading k a s) k).faultCause = checkBundle s a
            ∧ (enterReading k a s).notices = s.notices ||| Cause.fault.flag)

/-- R9, R10, R18: a host write of a nonzero bundle address to head word `k` of a reader in IDLE or STOPPED
starts it. An acceptable address takes it into READING; any other stops it with a chain fault and raises FAULT.
The other readers stay as they are. -/
def Obligations.HeadWriteStartsReader : Prop :=
  ∀ (s : State) (k : Fin 4) (a : Word),
    calm s = true → memoryCanonical s = true → readersSound s → (readerOf s k).headArmed = true → a ≠ 0 →
    ∃ t, exec (.hostWrite (BitVec.ofNat 32 (4 * k.1)) (leBytes 4 a.toNat)) s = .next t
      ∧ readerOf t k =
          (if checkBundle s a = .none then
            { readerOf s k with
              state := .reading, hold := .none, next := 0, fetched := none
              current := some ⟨a, 0, false, Vector.replicate 3 .pending⟩ }
          else
            { readerOf s k with
              state := .stopped, hold := .none, next := 0, fetched := none
              faultAddr := a, faultCause := checkBundle s a })
      ∧ (∀ j, j ≠ k → readerOf t j = readerOf s j)
      ∧ t.notices = (if checkBundle s a = .none then s.notices else s.notices ||| Cause.fault.flag)
      ∧ (∀ x, x < 4 * k.1 ∨ 4 * k.1 + 4 ≤ x → t.mem.read x = s.mem.read x)
      ∧ t.mem.field (4 * k.1) 4 = a.toNat
      ∧ t.panel = s.panel ∧ t.light = s.light ∧ t.link = s.link ∧ t.power = s.power ∧ t.faults = s.faults
      ∧ t.conds.values = s.conds.values ∧ t.conds.count = s.conds.count

/-- R6, R10: the completion of a bundle read. The reader takes the tag, the notify flag and the three slots from
page memory as it stands, writes TAKEN and enters HANDING at slot 0. -/
def Clause.BundleReadEntersHanding : Prop :=
  ∀ (s : State) (k : Fin 4) (b : Bundle),
    s.asleep = false → (readerOf s k).state = .reading → (readerOf s k).current = some b →
    (readerOf s k).fetched = none →
    exec (.bundleReadComplete k) s
      = .next (concluded (((beginEvent s).withReader k
          { readerOf s k with
            state := .handing, hold := .none, next := 0, fetched := none
            slots := #v[readSlot s.mem (b.addr.toNat + 16), readSlot s.mem (b.addr.toNat + 40),
              readSlot s.mem (b.addr.toNat + 64)]
            current := some { b with
              tag := BitVec.ofNat 32 (s.mem.field (b.addr.toNat + 4) 4)
              notify := (s.mem.read (b.addr.toNat + 8)).getLsbD 0 } }).withMem
          (s.mem.writeBytes (b.addr.toNat + 136) [1, 0, 0, 0])))

/-- R6, R10: the completion of a bundle read that has read the bundle ahead of its completion takes what it read
(log 5). -/
def Clause.BundleReadTakesFetched : Prop :=
  ∀ (s : State) (k : Fin 4) (b : Bundle) (c : Contents),
    s.asleep = false → (readerOf s k).state = .reading → (readerOf s k).current = some b →
    (readerOf s k).fetched = some c →
    exec (.bundleReadComplete k) s
      = .next (concluded (((beginEvent s).withReader k
          { readerOf s k with
            state := .handing, hold := .none, next := 0, fetched := none, slots := c.slots
            current := some { b with tag := c.tag, notify := c.notify } }).withMem
          (s.mem.writeBytes (b.addr.toNat + 136) [1, 0, 0, 0])))

/-- R11, R12: a barrier is released when the open-bundle list is empty and every lower slot is final: the slot is
handed over, and the next slot advances; a slot that its engine declines leaves the reader with QUEUE_ROOM. -/
def Clause.BarrierReleaseHandsSlotOver : Prop :=
  ∀ (s u : State) (k : Fin 4) (b : Bundle) (n : Fin 3),
    s.asleep = false → (readerOf s k).state = .handing → (readerOf s k).current = some b →
    (readerOf s k).hold = .barrier → (readerOf s k).next = n.1 → (readerOf s k).openList = [] →
    (∀ i : Fin 3, i < n → (b.outcomes[i]).final = true) →
    (handOver ((readerOf s k).slots[n]) ⟨k, b.addr, n, b.tag⟩ (beginEvent s) = some u →
        exec (.barrierRelease k) s
          = .next (concluded (u.withReader k
              { readerOf u k with next := (readerOf u k).next + 1, hold := .none })))
      ∧ (handOver ((readerOf s k).slots[n]) ⟨k, b.addr, n, b.tag⟩ (beginEvent s) = none →
        exec (.barrierRelease k) s
          = .next (concluded ((beginEvent s).withReader k { readerOf s k with hold := .queueRoom })))

/-- R13, R24: a free place that no held turn waits for goes to the reader with the lowest chain number among those
holding with QUEUE_ROOM. Its hand-over is attempted again, and the qualifier is read again: a qualifier that now
reads false leaves the slot SKIPPED. -/
def Clause.QueueRoomAdmitsLowestReader : Prop :=
  ∀ (s u : State) (k : Fin 4) (b : Bundle) (n : Fin 3),
    s.asleep = false → s.panel.queue.length < 32 → turnWaits s = false →
    holdsQueueRoom s k = true → (∀ j, j < k → holdsQueueRoom s j = false) →
    (readerOf s k).current = some b → (readerOf s k).next = n.1 →
    (((readerOf s k).slots[n]).barrier = false ∨ barrierOpen (readerOf s k) b = true) →
    (handOver ((readerOf s k).slots[n]) ⟨k, b.addr, n, b.tag⟩ (beginEvent s) = some u →
        exec .queueRoomAdmit s
          = .next (concluded (u.withReader k
              { readerOf u k with next := (readerOf u k).next + 1, hold := .none })))
      ∧ (((readerOf s k).slots[n]).engine = 1 → ((readerOf s k).slots[n]).code = 0x03 →
          ((readerOf s k).slots[n]).qual.toNat ≤ 15 → condition s ((readerOf s k).slots[n]).qual = false →
          exec .queueRoomAdmit s
            = .next (concluded (advance k
                (note (writeOutcome ⟨k, b.addr, n, b.tag⟩ .skipped .none 0 (beginEvent s))))))

/-- R10, R14, R16: a LIST_ROOM hold ends when the list has room or the bundle is final, and the leaving step goes
on: with a link of 0 the reader waits in AWAIT_LINK; with another link a bundle that is not final joins the list
and is written LEFT, and the reader enters READING at the link, with the next slot still 3. -/
def Clause.ListRoomReleaseLeavesBundle : Prop :=
  ∀ (s : State) (k : Fin 4) (b : Bundle),
    s.asleep = false → (readerOf s k).state = .handing → (readerOf s k).current = some b →
    (readerOf s k).hold = .listRoom → (readerOf s k).next = 3 →
    (linkWord s b = 0 → (b.allFinal = true ∨ (readerOf s k).openList.length < 32) →
        exec (.listRoomRelease k) s
          = .next (concluded ((beginEvent s).withReader k
              { readerOf s k with state := .awaitLink, hold := .none })))
      ∧ (linkWord s b ≠ 0 → b.allFinal = false → (readerOf s k).openList.length < 32 →
          checkBundle s (linkWord s b) = .none →
          exec (.listRoomRelease k) s
            = .next (concluded (((beginEvent s).withMem
                (s.mem.writeBytes (b.addr.toNat + 136) [2, 0, 0, 0])).withReader k
                { readerOf s k with
                  state := .reading, hold := .none, fetched := none
                  openList := (readerOf s k).openList ++ [b]
                  current := some ⟨linkWord s b, 0, false, Vector.replicate 3 .pending⟩ })))

/-- R10, R14, R16, R17: a bundle whose outcomes are all final retires as its reader leaves it along a link: it is
written RETIRED, counted, and raises CHAIN when its notify flag is set. Its own address is an acceptable link. -/
def Clause.LeavingFinalBundleRetiresIt : Prop :=
  ∀ (s : State) (k : Fin 4) (b : Bundle),
    s.asleep = false → (readerOf s k).state = .handing → (readerOf s k).current = some b →
    (readerOf s k).hold = .listRoom → (readerOf s k).next = 3 → linkWord s b ≠ 0 → b.allFinal = true →
    checkBundle (s.withReader k { readerOf s k with current := none }) (linkWord s b) = .none →
    exec (.listRoomRelease k) s
      = .next (concluded ((((beginEvent s).withMem
          (s.mem.writeBytes (b.addr.toNat + 136) [3, 0, 0, 0])).withReader k
          { readerOf s k with
            state := .reading, hold := .none, fetched := none, retired := (readerOf s k).retired + 1
            current := some ⟨linkWord s b, 0, false, Vector.replicate 3 .pending⟩ }).withNotices
          (if b.notify then s.notices ||| (Cause.chain k).flag else s.notices)))

/-- R5, R14, R18: a link that fails a check stops the reader with the cause and the link, after the bundle has
joined the list or retired, and raises FAULT. That the next slot is then 0 is the model's choice (log 33). -/
def Clause.BadLinkStopsReader : Prop :=
  ∀ (s : State) (k : Fin 4) (b : Bundle) (c : ChainCause),
    s.asleep = false → (readerOf s k).state = .handing → (readerOf s k).current = some b →
    (readerOf s k).hold = .listRoom → (readerOf s k).next = 3 → linkWord s b ≠ 0 →
    (b.allFinal = false → (readerOf s k).openList.length < 32 → c = checkBundle s (linkWord s b) → c ≠ .none →
        exec (.listRoomRelease k) s
          = .next (concluded (raiseFault true (((beginEvent s).withMem
              (s.mem.writeBytes (b.addr.toNat + 136) [2, 0, 0, 0])).withReader k
              { readerOf s k with
                state := .stopped, hold := .none, next := 0, fetched := none, current := none
                openList := (readerOf s k).openList ++ [b]
                faultAddr := linkWord s b, faultCause := c }))))
      ∧ (b.allFinal = true →
        c = checkBundle (s.withReader k { readerOf s k with current := none }) (linkWord s b) → c ≠ .none →
        exec (.listRoomRelease k) s
          = .next (concluded (raiseFault true ((((beginEvent s).withMem
              (s.mem.writeBytes (b.addr.toNat + 136) [3, 0, 0, 0])).withReader k
              { readerOf s k with
                state := .stopped, hold := .none, next := 0, fetched := none, current := none
                retired := (readerOf s k).retired + 1
                faultAddr := linkWord s b, faultCause := c }).withNotices
              (if b.notify then s.notices ||| (Cause.chain k).flag else s.notices)))))

/-- R4, R10, R14 to R18: a host write of a nonzero address to the link word that a reader in AWAIT_LINK watches.
The bundle retires when it is final and else joins the list; an acceptable link takes the reader into READING, and
any other stops it (next slot 0: log 33). The other readers and the engines stay as they are. -/
def Clause.LinkWriteMovesWaitingReader : Prop :=
  ∀ (s : State) (k : Fin 4) (b : Bundle) (a : Word) (c : ChainCause) (r : Reader),
    calm s = true → memoryCanonical s = true → readersSound s → (readerOf s k).state = .awaitLink →
    (readerOf s k).current = some b → a ≠ 0 →
    c = checkBundle (if b.allFinal then s.withReader k { readerOf s k with current := none } else s) a →
    r = (if b.allFinal then { readerOf s k with retired := (readerOf s k).retired + 1 }
      else { readerOf s k with openList := (readerOf s k).openList ++ [b] }) →
    ∃ t, exec (.hostWrite b.addr (leBytes 4 a.toNat)) s = .next t
      ∧ readerOf t k =
          (if c = .none then
            { r with
              state := .reading, hold := .none, fetched := none
              current := some ⟨a, 0, false, Vector.replicate 3 .pending⟩ }
          else
            { r with
              state := .stopped, hold := .none, next := 0, fetched := none, current := none
              faultAddr := a, faultCause := c })
      ∧ (∀ j, j ≠ k → readerOf t j = readerOf s j)
      ∧ t.notices = s.notices ||| (if b.allFinal && b.notify then (Cause.chain k).flag else 0)
          ||| (if c = .none then 0 else Cause.fault.flag)
      ∧ t.mem.field b.addr.toNat 4 = a.toNat
      ∧ t.mem.field (b.addr.toNat + 136) 4 = (if b.allFinal then 3 else 2)
      ∧ (∀ x, (x < b.addr.toNat ∨ b.addr.toNat + 4 ≤ x) → (x < b.addr.toNat + 136 ∨ b.addr.toNat + 140 ≤ x) →
          t.mem.read x = s.mem.read x)
      ∧ t.panel = s.panel ∧ t.light = s.light ∧ t.link = s.link ∧ t.power = s.power ∧ t.faults = s.faults

/-- R4 to R6, R10 to R18, R24: the events of a reader, from READING to its leaving step, and the link write that
ends AWAIT_LINK. The model's choices in it: logs 5 and 33. -/
def Obligations.ReadersReadHandAndLeave : Prop :=
  Clause.BundleReadEntersHanding ∧ Clause.BundleReadTakesFetched ∧ Clause.BarrierReleaseHandsSlotOver
    ∧ Clause.QueueRoomAdmitsLowestReader ∧ Clause.ListRoomReleaseLeavesBundle
    ∧ Clause.LeavingFinalBundleRetiresIt ∧ Clause.BadLinkStopsReader ∧ Clause.LinkWriteMovesWaitingReader

/-- R7, R16, R17, R20: the write of an outcome. The state, reason and detail go out as sixteen bytes. An outcome
that the chain unit records as final stays as written. Of a current bundle the record follows, and REFUSED or
FAILED raises CHAIN for its chain. A bundle that the chain unit does not hold changes in page memory alone. -/
def Clause.OutcomeWriteRecorded : Prop :=
  ∀ (s : State) (o : ReqRef) (st : OutcomeState) (reason : Reason) (detail : BitVec 112),
    (recorded s o = none →
        writeOutcome o st reason detail s
          = s.withMem (s.mem.writeBytes (o.bundle.toNat + 88 + 16 * o.slot.1)
              (st.code :: reason.code :: leBytes 14 detail.toNat)))
      ∧ (∀ old, recorded s o = some old → old.final = true → writeOutcome o st reason detail s = s)
      ∧ (∀ b old, (readerOf s o.chain).current = some b → b.addr = o.bundle → (readerOf s o.chain).openList = [] →
          b.outcomes[o.slot] = old → old.final = false →
          (writeOutcome o st reason detail s).mem
              = s.mem.writeBytes (o.bundle.toNat + 88 + 16 * o.slot.1)
                  (st.code :: reason.code :: leBytes 14 detail.toNat)
            ∧ readerOf (writeOutcome o st reason detail s) o.chain
                = { readerOf s o.chain with
                    current := some { b with outcomes := b.outcomes.set o.slot.1 st o.slot.2 } }
            ∧ (∀ j, j ≠ o.chain → readerOf (writeOutcome o st reason detail s) j = readerOf s j)
            ∧ (writeOutcome o st reason detail s).notices
                = (if st = .refused ∨ st = .failed then s.notices ||| (Cause.chain o.chain).flag
                   else s.notices))

/-- R16, R17: the write that makes the last outcome of a bundle in the open-bundle list final retires the bundle:
its state word reads RETIRED, it leaves the list, in which the others keep their order, the retired count goes up,
and CHAIN is raised by a REFUSED or FAILED outcome or by the notify flag. -/
def Clause.LastFinalOutcomeRetiresOpenBundle : Prop :=
  ∀ (s : State) (o : ReqRef) (st : OutcomeState) (reason : Reason) (detail : BitVec 112) (before after : List Bundle)
    (b : Bundle),
    (readerOf s o.chain).openList = before ++ b :: after → b.addr = o.bundle →
    (∀ d ∈ before ++ after, d.addr ≠ o.bundle ∧ d.allFinal = false) →
    (∀ d, (readerOf s o.chain).current = some d → d.addr ≠ o.bundle) →
    (b.outcomes[o.slot]).final = false → (∀ i : Fin 3, i ≠ o.slot → (b.outcomes[i]).final = true) →
    st.final = true →
    (writeOutcome o st reason detail s).mem
        = (s.mem.writeBytes (o.bundle.toNat + 88 + 16 * o.slot.1)
            (st.code :: reason.code :: leBytes 14 detail.toNat)).writeBytes (o.bundle.toNat + 136) [3, 0, 0, 0]
      ∧ readerOf (writeOutcome o st reason detail s) o.chain
        = { readerOf s o.chain with
            openList := before ++ after, retired := (readerOf s o.chain).retired + 1 }
      ∧ (∀ j, j ≠ o.chain → readerOf (writeOutcome o st reason detail s) j = readerOf s j)
      ∧ (writeOutcome o st reason detail s).notices
        = (if st = .refused ∨ st = .failed ∨ b.notify = true then s.notices ||| (Cause.chain o.chain).flag
           else s.notices)

/-- R7, 1.3, 11.4: the codes of the outcome states, which of them are final, and the codes of the reasons. -/
def Clause.OutcomeCodes : Prop :=
  [OutcomeState.pending, .skipped, .refused, .queued, .started, .done, .cancelled, .failed].map
      (fun st => (st.code, st.final))
    = [(0, false), (1, true), (2, true), (3, false), (4, false), (5, true), (6, true), (7, true)]
    ∧ [Reason.none, .illegal, .range, .busy, .sleeping, .protectedArea, .noWaveform, .waveformBad, .temperature,
        .uncertain, .clipped, .budgetWait, .halted, .tooLate, .slotCurrent, .slotEmpty, .duplicate, .tableFull,
        .tooLarge, .stalled, .digest, .abandoned, .cancelled, .slept, .aborted, .noBudget, .postedFault].map Reason.code
      = (List.range 27).map (BitVec.ofNat 8)

/-- R7, R16, R17, R20, 11.4: the write of an outcome with its codes, and the retirement of a bundle that it
completes. -/
def Obligations.OutcomeWriteFollowsRecord : Prop :=
  Clause.OutcomeWriteRecorded ∧ Clause.LastFinalOutcomeRetiresOpenBundle ∧ Clause.OutcomeCodes

/-! ## Hand-over -/

/-- R12, R25, R26: the slots that are settled by their engine field or the range of their request code. Here
`o` is offered with its qualifier naming a condition; the qualifier of an empty or a reserved slot is not
read. -/
def Clause.SlotsWithoutRequestSettled : Prop :=
  ∀ (s : State) (o : Offer) (e : Engine) (code : Byte) (engine : BitVec 3),
    (reaches s (offerSlot 0 code o) o = true →
        exec (.emptySlot o code) s
          = .next (carried s o (writeOutcome (offerRef o) .skipped .none 0 (beginEvent s))))
      ∧ (5 ≤ engine.toNat → reaches s (offerSlot engine code o) o = true →
          exec (.reservedEngine engine o code) s
            = .next (carried s o (writeOutcome (offerRef o) .refused .illegal 0 (beginEvent s))))
      ∧ (o.qual.toNat ≤ 15 → reaches s (offerSlot (engineField e) code o) o = true →
          (codeClass e code = .reserved →
              exec (.reservedRequestCode e o code) s
                = .next (carried s o (writeOutcome (offerRef o) .refused .illegal 0 (beginEvent s))))
            ∧ (0x40 ≤ code.toNat → code.toNat ≤ 0x7F →
                exec (.extensionRequestCode e o code) s
                  = .next (carried s o
                      (if condition s o.qual then
                        writeOutcome (offerRef o) .refused .illegal 0 (beginEvent s)
                      else writeOutcome (offerRef o) .skipped .none 0 (beginEvent s))))
            ∧ (0x80 ≤ code.toNat →
                exec (.ignoredRequestCode e o code) s
                  = .next (carried s o (writeOutcome (offerRef o) .done .none 0 (beginEvent s))))
            ∧ (code = 0 → condition s o.qual = false →
                exec (.noOp e o) s
                  = .next (carried s o (writeOutcome (offerRef o) .skipped .none 0 (beginEvent s))))
            ∧ (code = 0 → condition s o.qual = true → (faultOf s e).posted = none →
                exec (.noOp e o) s
                  = .next (carried s o
                      (if o.ops = 0 then writeOutcome (offerRef o) .done .none 0 (beginEvent s)
                      else writeOutcome (offerRef o) .refused .illegal 0 (beginEvent s)))))

/-- R25, R27, R185: a no-op taken with its qualifier true meets a posted fault: it is refused POSTED_FAULT, whatever
its operands, and the posted place is empty. -/
def Clause.NoOpMeetsPostedFault : Prop :=
  ∀ (s : State) (o : Offer) (e : Engine) (k : FaultKind),
    reaches s (offerSlot (engineField e) 0 o) o = true → o.qual.toNat ≤ 15 → condition s o.qual = true →
    (faultOf s e).posted = some k →
    exec (.noOp e o) s
      = .next (carried s o
          (writeOutcome (offerRef o) .refused .postedFault
            (outcomeDetail [(1, engineCode e), (1, k.code), (2, (faultOf s e).accrued.toNat),
              (1, if (faultOf s e).frame.origin.isSome then 1 else 0)])
            ((beginEvent s).withFault e { faultOf s e with posted := none })))

/-- R24: a qualifier above 15 is refused ILLEGAL on a no-op and on a reserved, an extension and an ignored code
too, whatever the code and the posted fault. -/
def Clause.QualifierNamesNoCondition : Prop :=
  ∀ (s : State) (o : Offer) (e : Engine) (code : Byte) (c : Instr),
    reaches s (offerSlot (engineField e) code o) o = true → 15 < o.qual.toNat →
    ((c = .noOp e o ∧ code = 0) ∨ (c = .reservedRequestCode e o code ∧ codeClass e code = .reserved)
      ∨ (c = .extensionRequestCode e o code ∧ 0x40 ≤ code.toNat ∧ code.toNat ≤ 0x7F)
      ∨ (c = .ignoredRequestCode e o code ∧ 0x80 ≤ code.toNat)) →
    exec c s = .next (carried s o (writeOutcome (offerRef o) .refused .illegal 0 (beginEvent s)))

/-- R25, R26: the request codes of the four engines, and the ranges of the others. -/
def Clause.RequestCodesOfEngines : Prop :=
  (∀ e, codeClass e 0x00 = .noOp)
    ∧ [0x01, 0x02, 0x03, 0x04, 0x05, 0x06, 0x07, 0x08, 0x09, 0x0A, 0x0B].map (codeClass .panel)
      = [RequestName.configurePanel, .loadWaveformSet, .updateRegion, .cancelUpdate, .stagePage, .freeSlot,
          .ringReset, .showSlot, .turn, .clearFaults, .test].map CodeClass.defined
    ∧ [0x01, 0x02, 0x03, 0x04].map (codeClass .light)
      = [RequestName.configureLight, .setLight, .test, .clearFaults].map CodeClass.defined
    ∧ [0x01, 0x02, 0x03, 0x04, 0x05, 0x06, 0x07, 0x08, 0x09].map (codeClass .link)
      = [RequestName.configureLink, .radioOn, .radioOff, .armParcel, .cancelParcel, .releaseParcel, .reportParcel,
          .test, .clearFaults].map CodeClass.defined
    ∧ [0x01, 0x02, 0x03, 0x04, 0x05, 0x06, 0x07, 0x08, 0x09].map (codeClass .power)
      = [RequestName.configurePower, .setCharge, .doze, .sleep, .cancelSleep, .acknowledgeInputs, .setConditions,
          .test, .clearFaults].map CodeClass.defined
    ∧ ∀ (e : Engine) (code : Byte) (last : Nat),
        last = (match e with | .panel => 0x0B | .light => 0x04 | .link => 0x09 | .power => 0x09) →
        (last < code.toNat → code.toNat ≤ 0x3F → codeClass e code = .reserved)
          ∧ (0x40 ≤ code.toNat → code.toNat ≤ 0x7F → codeClass e code = .extension)
          ∧ (0x80 ≤ code.toNat → codeClass e code = .ignored)

/-- R12, R24 to R27, R185: the slots without a defined request, with the request codes of the engines. -/
def Obligations.SlotsSettledByEngineAndCode : Prop :=
  Clause.SlotsWithoutRequestSettled ∧ Clause.NoOpMeetsPostedFault ∧ Clause.QualifierNamesNoCondition
    ∧ Clause.RequestCodesOfEngines

/-- R24, R25, R27, R171, R185: the defined requests that are not carried out. A qualifier above 15 is refused
ILLEGAL; a false qualifier skips every request but a CLEARING Test; a posted fault refuses the first request
examined, a CLEARING Test with a false qualifier too, and leaves the posted place empty; a nonzero byte where zero is
defined is refused ILLEGAL, the level of a Set light beside the auto flag 1 among them (log 36); and the requests that sleep entry bars are refused SLEEPING. -/
def Clause.RequestsRefusedOrSkipped : Prop :=
  ∀ (c : Instr) (e : Engine) (r : RequestName) (o : Offer) (s : State),
    requestOf c = some (e, r, o) →
    reaches s (offerSlot (engineField e) (requestCode e r) o) o = true →
    (15 < o.qual.toNat →
        exec c s = .next (carried s o (writeOutcome (offerRef o) .refused .illegal 0 (beginEvent s))))
      ∧ (o.qual.toNat ≤ 15 → condition s o.qual = false → ¬ (r = .test ∧ opByte o.ops 2 = 1) →
          exec c s = .next (carried s o (writeOutcome (offerRef o) .skipped .none 0 (beginEvent s))))
      ∧ (o.qual.toNat ≤ 15 → (condition s o.qual = true ∨ (r = .test ∧ opByte o.ops 2 = 1)) →
          declines s r = false →
          (∀ k, (faultOf s e).posted = some k → r ≠ .clearFaults →
              exec c s = .next (carried s o
                (writeOutcome (offerRef o) .refused .postedFault
                  (outcomeDetail [(1, engineCode e), (1, k.code), (2, (faultOf s e).accrued.toNat),
                    (1, if (faultOf s e).frame.origin.isSome then 1 else 0)])
                  ((beginEvent s).withFault e { faultOf s e with posted := none }))))
            ∧ ((faultOf s e).posted = none ∨ r = .clearFaults → zeroOperands e r o.ops = false →
                exec c s = .next (carried s o (writeOutcome (offerRef o) .refused .illegal 0 (beginEvent s))))
            ∧ ((faultOf s e).posted = none → zeroOperands e r o.ops = true → sleepingRefusal s r = true →
                exec c s
                  = .next (carried s o (writeOutcome (offerRef o) .refused .sleeping 0 (beginEvent s)))))

/-- R12, R54: an Update region or a Show slot whose qualifier reads true is declined while the queue holds 32
entries, whatever its operands, the power state and the posted fault: its reader holds with QUEUE_ROOM, and its
outcome stays as it is. -/
def Clause.FullQueueDeclinesOffer : Prop :=
  ∀ (s : State) (o : Offer),
    32 ≤ s.panel.queue.length → o.qual.toNat ≤ 15 → condition s o.qual = true →
    (reaches s (offerSlot 1 0x03 o) o = true →
        exec (.updateRegion o) s
          = .next (concluded (if handingAt (readerOf s o.chain) o then
              (beginEvent s).withReader o.chain { readerOf s o.chain with hold := .queueRoom }
            else beginEvent s)))
      ∧ (reaches s (offerSlot 1 0x08 o) o = true →
          exec (.showSlot o) s
            = .next (concluded (if handingAt (readerOf s o.chain) o then
                (beginEvent s).withReader o.chain { readerOf s o.chain with hold := .queueRoom }
              else beginEvent s)))

/-- R27, R28, R98, R170, 12.2: the operand bytes that each request defines as zero, which are those outside its named
fields: a Test names the parcel number for link selectors 1 and 2 alone, and of a Sleep the three unused flags of the
wake set are zero as well. A Set light leaves its level unused beside the auto flag 1 (R99), so that its level bytes are
zero there by R27; that R98 does not set R27 aside is log 36's. -/
def Clause.RequestsDefineZeroBytes : Prop :=
  ∀ (e : Engine) (ops : Operands),
    (∀ r ∈ [RequestName.configurePanel, .configureLight, .configureLink, .configurePower],
        (zeroOperands e r ops = true ↔ zeroBut ops (· < 4)))
      ∧ (opByte ops 3 ≠ 1 → (zeroOperands e .setLight ops = true ↔ zeroBut ops (· < 4)))
      ∧ (opByte ops 3 = 1 → (zeroOperands e .setLight ops = true ↔ zeroBut ops fun i => 2 ≤ i ∧ i < 4))
      ∧ (zeroOperands e .loadWaveformSet ops = true ↔ zeroBut ops (· < 8))
      ∧ (zeroOperands e .updateRegion ops = true ↔ zeroBut ops (· < 15))
      ∧ (zeroOperands e .cancelUpdate ops = true ↔ zeroBut ops (· < 5))
      ∧ (zeroOperands e .stagePage ops = true
          ↔ zeroBut ops fun i => i < 1 ∨ (4 ≤ i ∧ i < 9) ∨ (12 ≤ i ∧ i < 16))
      ∧ (∀ r ∈ [RequestName.freeSlot, .showSlot, .ringReset, .turn, .reportParcel],
          (zeroOperands e r ops = true ↔ zeroBut ops (· < 1)))
      ∧ (zeroOperands e .armParcel ops = true ↔ zeroBut ops fun i => i < 2 ∨ (4 ≤ i ∧ i < 12))
      ∧ (∀ r ∈ [RequestName.cancelParcel, .releaseParcel, .setCharge, .setConditions],
          (zeroOperands e r ops = true ↔ zeroBut ops (· < 2)))
      ∧ (e = .link → (opByte ops 0 = 1 ∨ opByte ops 0 = 2) →
          (zeroOperands e .test ops = true ↔ zeroBut ops fun i => i < 5 ∨ (6 ≤ i ∧ i < 12)))
      ∧ ((e ≠ .link ∨ (opByte ops 0 ≠ 1 ∧ opByte ops 0 ≠ 2)) →
          (zeroOperands e .test ops = true ↔ zeroBut ops fun i => i < 5 ∨ (8 ≤ i ∧ i < 12)))
      ∧ (∀ r ∈ [RequestName.radioOn, .radioOff, .doze, .cancelSleep, .acknowledgeInputs, .clearFaults],
          (zeroOperands e r ops = true ↔ zeroBut ops fun _ => False))
      ∧ (zeroOperands e .sleep ops = true ↔ zeroBut ops (· < 8) ∧ (opByte ops 5).toNat < 32)

/-- R118, R171: the requests that sleep entry bars: in all of SLEEP_PENDING Update region, Show slot, Turn, Stage page,
Load waveform set, Set light and Arm parcel, and Radio on from the start of DARKENING. -/
def Clause.SleepEntryBarsRequests : Prop :=
  ∀ (s : State) (r : RequestName),
    sleepingRefusal s r = true
      ↔ s.power.state = .sleepPending
        ∧ (r ∈ [RequestName.updateRegion, .showSlot, .turn, .stagePage, .loadWaveformSet, .setLight, .armParcel]
          ∨ (r = .radioOn ∧ s.power.sleep.step = some .darkening))

/-- R12, R24, R25, R27, R28, R54, R118, R170, R171, R185: the defined requests that are not carried out (log 36 for Set
light), with the bytes that each defines as zero and the requests that sleep entry bars, and those that a full queue
declines. -/
def Obligations.RequestsNotCarriedOut : Prop :=
  Clause.RequestsRefusedOrSkipped ∧ Clause.FullQueueDeclinesOffer ∧ Clause.RequestsDefineZeroBytes
    ∧ Clause.SleepEntryBarsRequests

/-- R12, R27: the frame of the requests that write no outcome but their own, where the slot stands in a bundle that
the chain unit does not hold, which only the model's commands offer (log 7). In a calm part, such a request changes
no byte of page memory but the sixteen of its outcome, no reader, and no engine but its own; a Radio on also moves
its claim and the light grant with what follows from it (R103, R109). The user conditions change by a Test and by Set
conditions alone; the NOTICE set gains FAULT, PARCEL by a Cancel parcel and BATTERY by the requests that set the
gauge, and nothing else; the wake line pulses in DOZE alone. -/
def Clause.PlainRequestStandingAlone : Prop :=
  ∀ (c : Instr) (e : Engine) (r : RequestName) (o : Offer) (s t : State),
    requestOf c = some (e, r, o) → plainRequest r = true → offered s e r o = true →
    calm s = true → standsAlone s o = true → exec c s = .next t →
    memoryKeptBut s t o ∧ t.readers = s.readers ∧ t.reports = s.reports
      ∧ (e ≠ .panel → t.panel = s.panel) ∧ (e ≠ .link → t.link = s.link)
      ∧ (e ≠ .light → r ≠ .radioOn → t.light = s.light)
      ∧ (e ≠ .power → r ≠ .radioOn → t.power = s.power)
      ∧ (∀ d : Engine, d ≠ e → (d = .light → r ≠ .radioOn) → faultOf t d = faultOf s d)
      ∧ t.held = none ∧ t.free = s.free ∧ t.pending = s.pending ∧ t.port = { s.port with returned := [] }
      ∧ (r ≠ .test → r ≠ .setConditions →
          ∀ i : Nat, 8 ≤ i → t.conds.values.getLsbD i = s.conds.values.getLsbD i)
      ∧ (∀ i : Nat, i ≠ 4 → (i = 6 → r ≠ .cancelParcel) → (i = 9 → r ≠ .setCharge ∧ r ≠ .configurePower) →
          t.notices.getLsbD i = s.notices.getLsbD i)
      ∧ (s.power.state ≠ .doze → t.wakePulse = s.wakePulse)
      ∧ (r = .radioOn →
          t.power = { s.power with radioClaim := t.power.radioClaim }
            ∧ t.light = { s.light with
                g := t.light.g, lw := t.light.lw, lc := t.light.lc, pw := t.light.pw, pc := t.light.pc
                limiting := t.light.limiting, ramp := t.light.ramp })

/-- R11, R12, R17, R27: the frame of the hand-over of such a request by the reader that holds its bundle: page memory
changes in the sixteen bytes of its outcome alone, its reader in the record of that outcome alone, no other reader,
and no engine but its own, apart from what a Radio on moves. The NOTICE set may also gain the CHAIN cause of its
chain. -/
def Clause.PlainRequestOfReader : Prop :=
  ∀ (s u : State) (e : Engine) (r : RequestName) (x : Slot) (o : ReqRef) (b : Bundle),
    synced s = true → x.engine = engineField e → codeClass e x.code = .defined r → plainRequest r = true →
    (readerOf s o.chain).current = some b → b.addr = o.bundle →
    (∀ d ∈ (readerOf s o.chain).openList, d.addr ≠ o.bundle ∧ d.allFinal = false) →
    handOver x o s = some u →
    (∀ a, a < outcomeAddr o ∨ outcomeAddr o + 16 ≤ a → u.mem.read a = s.mem.read a)
      ∧ (∃ st, readerOf u o.chain
          = { readerOf s o.chain with
              current := some { b with outcomes := b.outcomes.set o.slot.1 st o.slot.2 } })
      ∧ (∀ j, j ≠ o.chain → readerOf u j = readerOf s j) ∧ u.reports = s.reports
      ∧ (e ≠ .panel → u.panel = s.panel) ∧ (e ≠ .link → u.link = s.link)
      ∧ (e ≠ .light → r ≠ .radioOn → u.light = s.light)
      ∧ (e ≠ .power → r ≠ .radioOn → u.power = s.power)
      ∧ (∀ d : Engine, d ≠ e → (d = .light → r ≠ .radioOn) → faultOf u d = faultOf s d)
      ∧ u.held = s.held ∧ u.free = s.free ∧ u.pending = s.pending ∧ u.port = s.port
      ∧ (r ≠ .test → r ≠ .setConditions →
          ∀ i : Nat, 8 ≤ i → u.conds.values.getLsbD i = s.conds.values.getLsbD i)
      ∧ (∀ i : Nat, i ≠ o.chain.1 → i ≠ 4 → (i = 6 → r ≠ .cancelParcel) →
          (i = 9 → r ≠ .setCharge ∧ r ≠ .configurePower) → u.notices.getLsbD i = s.notices.getLsbD i)
      ∧ (s.power.state ≠ .doze → u.wakePulse = s.wakePulse)
      ∧ (r = .radioOn →
          u.power = { s.power with radioClaim := u.power.radioClaim }
            ∧ u.light = { s.light with
                g := u.light.g, lw := u.light.lw, lc := u.light.lc, pw := u.light.pw, pc := u.light.pc
                limiting := u.light.limiting })

/-- R11, R12, R17, R27: what the requests that write no outcome but their own may change: offered for a bundle that the
chain unit does not hold (the model's choice, log 7), and handed over by a reader. Conditions 0 to 7 follow their
owners' state (R21, O6). -/
def Obligations.PlainRequestsChangeOwnEngineOnly : Prop :=
  Clause.PlainRequestStandingAlone ∧ Clause.PlainRequestOfReader

/-! ## Conditions, tests and faults -/

/-- R33: Set conditions. Each condition whose mask flag is set takes the flag of the value set, the others stay,
and the outcome is DONE with conditions 8 to 15 as they stand after the writes. No power state but SLEEP keeps it
from being taken. A nonzero byte beside its two operands is refused ILLEGAL, and a posted fault refuses it
POSTED_FAULT; neither writes a condition. -/
def Obligations.SetConditionsWritesMaskedConditions : Prop :=
  ∀ (s : State) (o : Offer), presented s .power .setConditions o = true → condition s o.qual = true →
    (∀ k, (faultOf s .power).posted = some k →
        exec (.setConditions o) s
          = .next (carried s o (writeOutcome (offerRef o) .refused .postedFault
              (outcomeDetail [(1, 4), (1, k.code), (2, (faultOf s .power).accrued.toNat),
                (1, if (faultOf s .power).frame.origin.isSome then 1 else 0)])
              ((beginEvent s).withFault .power { faultOf s .power with posted := none }))))
      ∧ ((faultOf s .power).posted = none → (∃ i, 2 ≤ i ∧ i < 20 ∧ opByte o.ops i ≠ 0) →
        exec (.setConditions o) s
          = .next (carried s o (writeOutcome (offerRef o) .refused .illegal 0 (beginEvent s))))
      ∧ ((faultOf s .power).posted = none → (∀ i, 2 ≤ i → i < 20 → opByte o.ops i = 0) →
        ∃ v : BitVec 16,
          (∀ i, i < 8 → v.getLsbD i = s.conds.values.getLsbD i)
            ∧ (∀ i, i < 8 → v.getLsbD (8 + i) =
                if (opByte o.ops 0).getLsbD i then (opByte o.ops 1).getLsbD i
                else s.conds.values.getLsbD (8 + i))
            ∧ exec (.setConditions o) s
                = .next (carried s o (writeOutcome (offerRef o) .done .none
                    (outcomeDetail [(1, v.toNat / 256)]) ((beginEvent s).withConds (conditionsWith s v)))))

/-- R28, R29, R31, R32: a Test taken with its qualifier true. It compares its sample with the operand value,
writes its targets by its kind, and is DONE with the sample, the result and the user conditions after it. -/
def Clause.TestTakenWritesTargets : Prop :=
  ∀ (s : State) (e : Engine) (o : Offer) (x : Int) (r : Relation) (k : TestKind),
    offered s e .test o = true →
    sample s e (opByte o.ops 0).toNat (opHalf o.ops 6) = some x →
    relationOf (opByte o.ops 1).toNat = some r → testKindOf (opByte o.ops 2).toNat = some k →
    checkTargets k (opByte o.ops 3).toNat (opByte o.ops 4).toNat = .none →
    ∃ v : BitVec 16,
      (∀ i, i < 16 → v.getLsbD i =
          testedCondition k (opByte o.ops 3).toNat (opByte o.ops 4).toNat
            (r.holds x (opWord o.ops 8).toInt) (s.conds.values.getLsbD i) i)
        ∧ exec (.test e o) s
            = .next (carried s o (writeOutcome (offerRef o) .done .none
                (outcomeDetail [signedItem 4 x, (1, if r.holds x (opWord o.ops 8).toInt then 1 else 0), (1, 1),
                  (1, v.toNat / 256)])
                ((beginEvent s).withConds (conditionsWith s v))))

/-- R31: the value that each selector of each engine samples, and the selectors that name nothing. -/
def Clause.SelectorsSample : Prop :=
  ∀ (s : State) (n : Half),
    sample s .panel 0 n = some (((List.finRange 16).filter fun i => decide ((laneOf s i).state = .free)).length : Nat)
      ∧ sample s .panel 1 n = some (s.panel.queue.length : Nat)
      ∧ sample s .panel 2 n = some (s.panel.ring.ahead : Nat)
      ∧ (s.panel.setState ≠ .valid → sample s .panel 3 n = some (-1))
      ∧ (∀ b : Nat, s.panel.setState = .valid → s.panel.band = some b → sample s .panel 3 n = some (b : Int))
      ∧ (s.panel.setState = .absent → sample s .panel 4 n = some 0)
      ∧ (∀ job, s.panel.setState = .loading job → sample s .panel 4 n = some 1)
      ∧ (s.panel.setState = .valid → sample s .panel 4 n = some 2)
      ∧ sample s .light 0 n = some (s.light.level : Int) ∧ sample s .light 1 n = some (s.light.lux : Int)
      ∧ sample s .link 0 n = some (s.link.signal : Int)
      ∧ ((∀ q, (parcelOf s q).state ≠ .free → (parcelOf s q).number ≠ n) →
          sample s .link 1 n = some 0 ∧ sample s .link 2 n = some 0)
      ∧ (∀ r p, parcelOf s r = p → p.state ≠ .free → p.number = n →
          (∀ q, q ≠ r → (parcelOf s q).state ≠ .free → (parcelOf s q).number ≠ n) →
          sample s .link 1 n = some (match p.state with
              | .free => 0 | .armed => 1 | .filling => 2 | .verifying => 3 | .complete => 4 | .failed => 5)
            ∧ sample s .link 2 n = some (match p.fields with | some f => (f.received : Int) | none => 0))
      ∧ sample s .power 0 n = some (s.power.gauge.soc : Int) ∧ sample s .power 1 n = some s.power.vb
      ∧ sample s .power 2 n = some s.power.batteryTemp ∧ sample s .power 3 n = some (s.power.budget : Int)
      ∧ ∀ sel, (5 ≤ sel → sample s .panel sel n = none) ∧ (2 ≤ sel → sample s .light sel n = none)
        ∧ (3 ≤ sel → sample s .link sel n = none) ∧ (4 ≤ sel → sample s .power sel n = none)

/-- R80: the ahead count is the number of READY slots that follow one another from the target of the last turn
direction on, seven at most. `place i` is the slot `i` turns on from the current one. -/
def Clause.AheadCountsReadySlots : Prop :=
  ∀ (r : Ring) (place : Nat → Fin 8), place 0 = r.current →
    (∀ i, place (i + 1) = match r.dir with | .next => place i + 1 | .prev => place i - 1) →
    r.ahead ≤ 7 ∧ (∀ i, 1 ≤ i → i ≤ r.ahead → r.slots[place i].tag = .ready)
      ∧ (r.ahead < 7 → r.slots[place (r.ahead + 1)].tag ≠ .ready)

/-- R29, 2.4: the codes of the relations and of the kinds, and what each relation compares. -/
def Clause.RelationsCompare : Prop :=
  [0, 1, 2, 3].map relationOf = [some .lt, some .ge, some .eq, some .ne]
    ∧ [0, 1, 2, 3].map testKindOf = [some .plain, some .clearing, some .and, some .or]
    ∧ (∀ n, 3 < n → relationOf n = none ∧ testKindOf n = none)
    ∧ ∀ x v : Int, (Relation.lt.holds x v = true ↔ x < v) ∧ (Relation.ge.holds x v = true ↔ v ≤ x)
      ∧ (Relation.eq.holds x v = true ↔ x = v) ∧ (Relation.ne.holds x v = true ↔ x ≠ v)

/-- R28: a Test whose selector, relation or kind names nothing, or whose targets are not allowed, is refused
and writes no condition. That a target of 1 to 7 beside one above 15 is refused ILLEGAL is the model's choice (log
38). -/
def Clause.TestRefusesBadOperands : Prop :=
  ∀ (s : State) (e : Engine) (o : Offer), offered s e .test o = true →
    ((sample s e (opByte o.ops 0).toNat (opHalf o.ops 6) = none ∨ 3 < (opByte o.ops 1).toNat
        ∨ 3 < (opByte o.ops 2).toNat) →
      exec (.test e o) s = .next (carried s o (writeOutcome (offerRef o) .refused .range 0 (beginEvent s))))
    ∧ (∀ k, (sample s e (opByte o.ops 0).toNat (opHalf o.ops 6)).isSome = true →
        (opByte o.ops 1).toNat ≤ 3 → testKindOf (opByte o.ops 2).toNat = some k →
        (((1 ≤ (opByte o.ops 3).toNat ∧ (opByte o.ops 3).toNat ≤ 7)
            ∨ (1 ≤ (opByte o.ops 4).toNat ∧ (opByte o.ops 4).toNat ≤ 7)) →
          exec (.test e o) s
            = .next (carried s o (writeOutcome (offerRef o) .refused .illegal 0 (beginEvent s))))
        ∧ (¬ ((1 ≤ (opByte o.ops 3).toNat ∧ (opByte o.ops 3).toNat ≤ 7)
              ∨ (1 ≤ (opByte o.ops 4).toNat ∧ (opByte o.ops 4).toNat ≤ 7)) →
          (15 < (opByte o.ops 3).toNat ∨ 15 < (opByte o.ops 4).toNat) →
          exec (.test e o) s
            = .next (carried s o (writeOutcome (offerRef o) .refused .range 0 (beginEvent s))))
        ∧ ((k = .plain ∨ k = .clearing) → opByte o.ops 3 = opByte o.ops 4 → 8 ≤ (opByte o.ops 3).toNat →
          (opByte o.ops 3).toNat ≤ 15 →
          exec (.test e o) s
            = .next (carried s o (writeOutcome (offerRef o) .refused .illegal 0 (beginEvent s)))))

/-- R30: a CLEARING Test whose qualifier reads false is taken: it writes false into its targets, samples
nothing, and is DONE with result 2. -/
def Clause.ClearingTestClearsTargets : Prop :=
  ∀ (s : State) (e : Engine) (o : Offer),
    presented s e .test o = true → condition s o.qual = false → opByte o.ops 2 = 1 →
    (faultOf s e).posted = none → zeroOperands e .test o.ops = true →
    (sample s e (opByte o.ops 0).toNat (opHalf o.ops 6)).isSome = true → (opByte o.ops 1).toNat ≤ 3 →
    checkTargets .clearing (opByte o.ops 3).toNat (opByte o.ops 4).toNat = .none →
    ∃ v : BitVec 16,
      (∀ i, i < 16 → v.getLsbD i =
          if 8 ≤ i ∧ (i = (opByte o.ops 3).toNat ∨ i = (opByte o.ops 4).toNat) then false
          else s.conds.values.getLsbD i)
        ∧ exec (.test e o) s
            = .next (carried s o (writeOutcome (offerRef o) .done .none
                (outcomeDetail [(4, 0), (1, 2), (1, 0), (1, v.toNat / 256)])
                ((beginEvent s).withConds (conditionsWith s v))))

/-- R28 to R32, R80: a Test taken with its qualifier true, with the values that its selectors sample and what its
relations compare, a Test that is refused (log 38 for two bad targets), and a CLEARING Test whose qualifier reads
false. -/
def Obligations.TestWritesResult : Prop :=
  Clause.TestTakenWritesTargets ∧ Clause.SelectorsSample ∧ Clause.RelationsCompare ∧ Clause.AheadCountsReadySlots
    ∧ Clause.TestRefusesBadOperands ∧ Clause.ClearingTestClearsTargets

/-- R186: Clear faults empties the accrued set, the posted place and the fault frame of its engine, starts the
posting count afresh (R187), and is DONE with what it found. A posted fault does not refuse it. -/
def Clause.ClearFaultsEmptiesFaultState : Prop :=
  ∀ (s : State) (e : Engine) (o : Offer), offered s e .clearFaults o = true →
    exec (.clearFaults e o) s
      = .next (carried s o (writeOutcome (offerRef o) .done .none
          (outcomeDetail [(1, kindCode (faultOf s e).posted), (2, (faultOf s e).accrued.toNat),
            (1, if (faultOf s e).frame.kind.isSome then 1 else 0)])
          ((beginEvent s).withFault e ⟨0, none, 0, ⟨none, none, 0, 0⟩⟩)))

/-- R182 to R184: an occurrence of a maskable kind outside any request. It sets its flag in the accrued set
whatever the mask; enabled, it takes an empty posted place or one of a lower priority, with the frame, one more
posting and FAULT. -/
def Clause.OccurrenceAccruesAndPosts : Prop :=
  ∀ (s : State) (k : FaultKind) (detail : BitVec 128), k ≠ .waveformBad → k ≠ .brownout →
    (∀ d : Engine, d ≠ k.engine → faultOf (occur k detail s) d = faultOf s d)
      ∧ (faultOf (occur k detail s) k.engine).accrued = (faultOf s k.engine).accrued ||| k.flag
      ∧ ((faultEnabled s k = false ∨ ∃ q, (faultOf s k.engine).posted = some q ∧ q.code ≤ k.code) →
          (faultOf (occur k detail s) k.engine).posted = (faultOf s k.engine).posted
            ∧ (faultOf (occur k detail s) k.engine).frame = (faultOf s k.engine).frame
            ∧ (faultOf (occur k detail s) k.engine).count = (faultOf s k.engine).count
            ∧ (occur k detail s).notices = s.notices)
      ∧ (faultEnabled s k = true → (∀ q, (faultOf s k.engine).posted = some q → k.code < q.code) →
          faultOf (occur k detail s) k.engine
              = ⟨(faultOf s k.engine).accrued ||| k.flag, some k, (faultOf s k.engine).count + 1,
                  ⟨some k, none, (faultOf s k.engine).accrued ||| k.flag, detail⟩⟩
            ∧ (occur k detail s).notices = s.notices ||| Cause.fault.flag)

/-- R169, R184, R187: an occurrence of WAVEFORM_BAD or BROWNOUT takes the posted place whatever it holds, with its
frame, one more posting and FAULT; in DOZE it pulses the wake line. -/
def Clause.NonmaskableOccurrenceReplacesPost : Prop :=
  ∀ (s : State) (k : FaultKind) (origin : Option ReqRef) (detail : BitVec 128), (k = .waveformBad ∨ k = .brownout) →
    faultOf (occurNonmaskable k origin detail s) k.engine
        = ⟨(faultOf s k.engine).accrued ||| 1, some k, (faultOf s k.engine).count + 1,
            ⟨some k, origin, (faultOf s k.engine).accrued ||| 1, detail⟩⟩
      ∧ (∀ d : Engine, d ≠ k.engine → faultOf (occurNonmaskable k origin detail s) d = faultOf s d)
      ∧ (occurNonmaskable k origin detail s).notices = s.notices ||| Cause.fault.flag
      ∧ (s.power.state = .doze → (occurNonmaskable k origin detail s).wakePulse.isSome = true)
      ∧ (s.power.state ≠ .doze → (occurNonmaskable k origin detail s).wakePulse = s.wakePulse)

/-- R182, R183, 11.1, 12.3: the fault kinds of the four engines with their codes, a kind's flag in the accrued set, its
priority, and the mask flags that enable the maskable kinds. -/
def Clause.FaultKindsOfEngines : Prop :=
  [FaultKind.waveformBad, .tempRange, .uncertain, .clipped, .budgetWait].map (fun k => (k.engine, k.code))
      = [(.panel, 1), (.panel, 2), (.panel, 3), (.panel, 4), (.panel, 5)]
    ∧ [FaultKind.grantLimited, .sensorLost].map (fun k => (k.engine, k.code)) = [(.light, 1), (.light, 2)]
    ∧ [FaultKind.overrun, .abort, .crc, .size, .unknownKind, .unknownParcel, .blockRange, .blockLength, .stalled,
        .digest].map (fun k => (k.engine, k.code))
      = [(.link, 1), (.link, 2), (.link, 3), (.link, 4), (.link, 5), (.link, 6), (.link, 7), (.link, 8), (.link, 9),
        (.link, 10)]
    ∧ [FaultKind.brownout, .budgetShort, .batteryHot, .gaugeClamp].map (fun k => (k.engine, k.code))
      = [(.power, 1), (.power, 2), (.power, 3), (.power, 4)]
    ∧ kindCode none = 0 ∧ (∀ k, kindCode (some k) = k.code)
    ∧ (∀ (k : FaultKind) (i : Nat), k.flag.getLsbD i = decide (i + 1 = k.code))
    ∧ (∀ k, takesPlace none k = true) ∧ (∀ q k, takesPlace (some q) k = true ↔ k.code < q.code)
    ∧ ∀ s : State,
        [FaultKind.tempRange, .uncertain, .clipped, .budgetWait].map (faultEnabled s)
            = [s.panel.settings.mask.tempRange, s.panel.settings.mask.uncertain, s.panel.settings.mask.clipped,
                s.panel.settings.mask.budgetWait]
          ∧ [FaultKind.grantLimited, .sensorLost].map (faultEnabled s)
            = [s.light.settings.grantLimited, s.light.settings.sensorLost]
          ∧ (∀ k : FaultKind, k.engine = .link → faultEnabled s k = s.link.settings.mask.getLsbD (k.code - 1))
          ∧ [FaultKind.budgetShort, .batteryHot, .gaugeClamp].map (faultEnabled s)
            = [s.power.settings.budgetShort, s.power.settings.batteryHot, s.power.settings.gaugeClamp]

/-- R169, R182 to R184, R186, R187, 11.1: the fault kinds, occurrences of maskable and of nonmaskable kinds, and Clear
faults. -/
def Obligations.FaultsAccruePostAndClear : Prop :=
  Clause.ClearFaultsEmptiesFaultState ∧ Clause.OccurrenceAccruesAndPosts
    ∧ Clause.NonmaskableOccurrenceReplacesPost ∧ Clause.FaultKindsOfEngines

/-! ## Settings -/

/-- R35, R96, R116, R154: the refusals of the four Configure requests. A record outside the host area is refused
PROTECTED; Configure panel is refused BUSY while a lane is not FREE or the queue is not empty; a record that
fails a check is refused with that check's reason. No setting changes. -/
def Clause.ConfigureRefusals : Prop :=
  ∀ (s : State) (o : Offer) (a : Nat), (opWord o.ops 0).toNat = a →
    (offered s .panel .configurePanel o = true → inHostArea a 32 = false →
        exec (.configurePanel o) s
          = .next (carried s o (writeOutcome (offerRef o) .refused .protectedArea 0 (beginEvent s))))
      ∧ (offered s .panel .configurePanel o = true → inHostArea a 32 = true →
          (allLanesFree s.panel = false ∨ s.panel.queue ≠ []) →
          exec (.configurePanel o) s
            = .next (carried s o (writeOutcome (offerRef o) .refused .busy 0 (beginEvent s))))
      ∧ (offered s .panel .configurePanel o = true → inHostArea a 32 = true →
          allLanesFree s.panel = true → s.panel.queue = [] → checkPanelRecord (s.mem.readBytes a 32) ≠ .none →
          exec (.configurePanel o) s
            = .next (carried s o (writeOutcome (offerRef o) .refused (checkPanelRecord (s.mem.readBytes a 32)) 0
                (beginEvent s))))
      ∧ (offered s .light .configureLight o = true →
          (inHostArea a 48 = false →
              exec (.configureLight o) s
                = .next (carried s o (writeOutcome (offerRef o) .refused .protectedArea 0 (beginEvent s))))
            ∧ (inHostArea a 48 = true → checkLightRecord (s.mem.readBytes a 48) ≠ .none →
                exec (.configureLight o) s
                  = .next (carried s o (writeOutcome (offerRef o) .refused
                      (checkLightRecord (s.mem.readBytes a 48)) 0 (beginEvent s)))))
      ∧ (offered s .link .configureLink o = true →
          (inHostArea a 16 = false →
              exec (.configureLink o) s
                = .next (carried s o (writeOutcome (offerRef o) .refused .protectedArea 0 (beginEvent s))))
            ∧ (inHostArea a 16 = true → checkLinkRecord (s.mem.readBytes a 16) ≠ .none →
                exec (.configureLink o) s
                  = .next (carried s o (writeOutcome (offerRef o) .refused
                      (checkLinkRecord (s.mem.readBytes a 16)) 0 (beginEvent s)))))
      ∧ (offered s .power .configurePower o = true →
          (inHostArea a 48 = false →
              exec (.configurePower o) s
                = .next (carried s o (writeOutcome (offerRef o) .refused .protectedArea 0 (beginEvent s))))
            ∧ (inHostArea a 48 = true → checkPowerRecord (s.mem.readBytes a 48) ≠ .none →
                exec (.configurePower o) s
                  = .next (carried s o (writeOutcome (offerRef o) .refused
                      (checkPowerRecord (s.mem.readBytes a 48)) 0 (beginEvent s)))))

/-- R35, 12.3: the fields of a panel settings record, its zero bytes and flags (ILLEGAL), and its ranges (RANGE), in
that order. `b i` is byte `i` of the record, and `h i` the two-byte field there. -/
def Clause.PanelRecordFields : Prop :=
  ∀ (r : List Byte) (b h : Nat → Nat) (zeros ranges : Prop),
    (∀ i, b i = (r.getD i 0).toNat) → (∀ i, h i = b i + 256 * b (i + 1)) →
    (zeros ↔ (∀ i, 9 ≤ i → i < 32 → b i = 0) ∧ b 7 < 4 ∧ b 8 < 16) →
    (ranges ↔ 256 ≤ h 0 ∧ h 0 ≤ 2048 ∧ h 0 % 8 = 0 ∧ 256 ≤ h 2 ∧ h 2 ≤ 2048 ∧ 8 ≤ b 4 ∧ b 4 ≤ 50 ∧ b 5 ≤ 7
      ∧ b 6 ≤ 100) →
    (¬ zeros → checkPanelRecord r = .illegal) ∧ (zeros → ¬ ranges → checkPanelRecord r = .range)
      ∧ (zeros → ranges → checkPanelRecord r = .none)
      ∧ panelRecord r = ⟨h 0, h 2, b 4, b 5, b 6, (b 7).testBit 0, (b 7).testBit 1,
          ⟨(b 8).testBit 0, (b 8).testBit 1, (b 8).testBit 2, (b 8).testBit 3⟩⟩

/-- R96, 12.3: the fields of a light settings record, its zero bytes, points and flags (ILLEGAL), and its ranges
(RANGE), in that order. -/
def Clause.LightRecordFields : Prop :=
  ∀ (r : List Byte) (b h : Nat → Nat) (zeros ranges : Prop),
    (∀ i, b i = (r.getD i 0).toNat) → (∀ i, h i = b i + 256 * b (i + 1)) →
    (zeros ↔ (∀ i, 40 ≤ i → i < 48 → b i = 0) ∧ (∀ i, 8 + 4 * b 4 ≤ i → i < 40 → b i = 0) ∧ b 5 < 4) →
    (ranges ↔ 5 ≤ b 0 ∧ b 0 ≤ 100 ∧ 5 ≤ b 1 ∧ b 1 ≤ 100 ∧ 1 ≤ h 2 ∧ h 2 ≤ 4095 ∧ 2 ≤ b 4 ∧ b 4 ≤ 8 ∧ h 6 ≤ 200
      ∧ (∀ i, i < b 4 → h (10 + 4 * i) ≤ 1000) ∧ (∀ i, i + 1 < b 4 → h (8 + 4 * i) < h (12 + 4 * i))) →
    (¬ zeros → checkLightRecord r = .illegal) ∧ (zeros → ¬ ranges → checkLightRecord r = .range)
      ∧ (zeros → ranges → checkLightRecord r = .none)
      ∧ lightRecord r = ⟨b 0, b 1, h 2, (List.range (b 4)).map fun i => (h (8 + 4 * i), h (10 + 4 * i)), h 6,
          (b 5).testBit 0, (b 5).testBit 1⟩

/-- R116, 12.3: the fields of a link settings record, its zero bytes and flags (ILLEGAL), and its ranges (RANGE),
in that order. -/
def Clause.LinkRecordFields : Prop :=
  ∀ (r : List Byte) (b h : Nat → Nat) (zeros ranges : Prop),
    (∀ i, b i = (r.getD i 0).toNat) → (∀ i, h i = b i + 256 * b (i + 1)) →
    (zeros ↔ (∀ i, 8 ≤ i → i < 16 → b i = 0) ∧ h 6 < 1024) →
    (ranges ↔ 1 ≤ b 0 ∧ b 0 ≤ 254 ∧ b 1 ≤ 1 ∧ 1 ≤ b 2 ∧ b 2 ≤ 60 ∧ 1 ≤ b 3 ∧ b 3 ≤ 15 ∧ h 4 ≤ 800) →
    (¬ zeros → checkLinkRecord r = .illegal) ∧ (zeros → ¬ ranges → checkLinkRecord r = .range)
      ∧ (zeros → ranges → checkLinkRecord r = .none)
      ∧ (linkRecord r).station.toNat = b 0 ∧ ((linkRecord r).filter = true ↔ b 1 = 1)
      ∧ (linkRecord r).quietTime = b 2 ∧ (linkRecord r).gapLimit = b 3 ∧ (linkRecord r).current = h 4
      ∧ (linkRecord r).mask.toNat = h 6 % 1024

/-- R154, 12.3: the fields of a power settings record, its zero bytes and flags (ILLEGAL), and its ranges (RANGE),
in that order. -/
def Clause.PowerRecordFields : Prop :=
  ∀ (r : List Byte) (b h : Nat → Nat) (zeros ranges : Prop) (m : Mode),
    (∀ i, b i = (r.getD i 0).toNat) → (∀ i, h i = b i + 256 * b (i + 1)) →
    (zeros ↔ b 23 = 0 ∧ (∀ i, 28 ≤ i → i < 48 → b i = 0) ∧ b 15 < 8 ∧ b 20 < 4 ∧ b 22 < 16) →
    (ranges ↔ h 0 ≤ 20000 ∧ 20 ≤ h 2 ∧ h 2 ≤ 2000 ∧ 2800 ≤ h 4 ∧ h 4 ≤ 3600 ∧ 2900 ≤ h 6 ∧ h 6 ≤ 3400
      ∧ 3000 ≤ h 8 ∧ h 8 ≤ 3600 ∧ 100 ≤ h 10 ∧ h 10 ≤ 3000 ∧ h 12 ≤ 500 ∧ 40 ≤ b 14 ∧ b 14 ≤ 70 ∧ h 16 ≤ 500
      ∧ h 18 ≤ 600 ∧ b 21 ≤ 3) →
    (¬ zeros → checkPowerRecord r = .illegal) ∧ (zeros → ¬ ranges → checkPowerRecord r = .range)
      ∧ (zeros → ranges → checkPowerRecord r = .none)
      ∧ (m.code = b 21 →
          powerRecord r = ⟨h 0, h 2, h 4, h 6, h 8, h 10, h 12, b 14, h 16, (b 15).testBit 0, (b 15).testBit 1,
            (b 15).testBit 2, h 18, (b 20).testBit 0, (b 20).testBit 1, BitVec.ofNat 32 (h 24 + 65536 * h 26), m,
            BitVec.ofNat 5 (b 22)⟩)

/-- R35, R96, R116, R154, 12.3: the settings records with their checks, and the refusals of the four Configure
requests. -/
def Obligations.ConfigureRefusesBadRecord : Prop :=
  Clause.ConfigureRefusals ∧ Clause.PanelRecordFields ∧ Clause.LightRecordFields ∧ Clause.LinkRecordFields
    ∧ Clause.PowerRecordFields

/-- R35, R36: a Configure panel whose record passes its checks replaces every panel setting, and is DONE. A
change of width or height empties the uncertain list, sets the whole-panel flag, empties the ring's tags and
clears a held turn. -/
def Clause.ConfigurePanelTakesRecord : Prop :=
  ∀ (s : State) (o : Offer) (n : PanelSettings),
    offered s .panel .configurePanel o = true → inHostArea (opWord o.ops 0).toNat 32 = true →
    allLanesFree s.panel = true → s.panel.queue = [] →
    checkPanelRecord (s.mem.readBytes (opWord o.ops 0).toNat 32) = .none →
    n = panelRecord (s.mem.readBytes (opWord o.ops 0).toNat 32) →
    n.mask.tempRange = s.panel.settings.mask.tempRange →
    (n.width = s.panel.settings.width → n.height = s.panel.settings.height →
        exec (.configurePanel o) s
          = .next (carried s o (writeOutcome (offerRef o) .done .none 0
              ((beginEvent s).withPanel { s.panel with settings := n }))))
      ∧ (n.width ≠ s.panel.settings.width ∨ n.height ≠ s.panel.settings.height →
        exec (.configurePanel o) s
          = .next (carried s o (writeOutcome (offerRef o) .done .none 0
              ((beginEvent s).withPanel { s.panel with
                settings := n
                uncertain := []
                wholePanel := true
                ring := { s.panel.ring with
                  slots := s.panel.ring.slots.map fun x => { x with tag := .empty }
                  held := none } }))))

/-- R36, R51: a Configure panel that enables TEMP_RANGE while the set is VALID and the temperature is out of
range gives one occurrence of TEMP_RANGE; its settings are replaced as otherwise. The size of the bound in the detail is
log 51's. -/
def Clause.ConfigurePanelEnablesTempRange : Prop :=
  ∀ (s : State) (o : Offer) (n : PanelSettings),
    offered s .panel .configurePanel o = true → inHostArea (opWord o.ops 0).toNat 32 = true →
    allLanesFree s.panel = true → s.panel.queue = [] →
    checkPanelRecord (s.mem.readBytes (opWord o.ops 0).toNat 32) = .none →
    n = panelRecord (s.mem.readBytes (opWord o.ops 0).toNat 32) →
    n.width = s.panel.settings.width → n.height = s.panel.settings.height →
    s.panel.setState = .valid → s.panel.range ≠ .inRange →
    s.panel.settings.mask.tempRange = false → n.mask.tempRange = true →
    exec (.configurePanel o) s
      = .next (carried s o (writeOutcome (offerRef o) .done .none 0
          (occur .tempRange
            (frameDetail [signedItem 2 s.panel.lastTemp,
              signedItem 2 (if s.panel.range = .outHigh then waveBound s.mem (waveBands s.mem)
                else waveBound s.mem 0)])
            ((beginEvent s).withPanel { s.panel with settings := n }))))

/-- R96, R97, R109, R110: a Configure light whose record passes its checks replaces every light setting, and is DONE.
In AUTO mode a changed table has its level adopted; a changed full-scale current has the mix recomputed and the present
duties cut. A limiting episode that goes on and whose flag becomes enabled is then an occurrence of GRANT_LIMITED, and
a sensor-lost episode whose flag becomes enabled one of SENSOR_LOST. The order of the two, and the level adopted before
the cut, are the model's choices (logs 40 and 48); that GRANT_LIMITED is for an episode in progress before and after
the request is its reading (log 11). -/
def Obligations.ConfigureLightReplacesSettings : Prop :=
  ∀ (s a b : State) (o : Offer) (n : LightSettings) (m : Light),
    offered s .light .configureLight o = true → inHostArea (opWord o.ops 0).toNat 48 = true →
    checkLightRecord (s.mem.readBytes (opWord o.ops 0).toNat 48) = .none →
    n = lightRecord (s.mem.readBytes (opWord o.ops 0).toNat 48) →
    (n.ifw = s.light.settings.ifw → n.ifc = s.light.settings.ifc →
      (s.light.auto = false ∨ n.points = s.light.settings.points) → m = { s.light with settings := n }) →
    (n.ifw ≠ s.light.settings.ifw ∨ n.ifc ≠ s.light.settings.ifc →
      (s.light.auto = false ∨ n.points = s.light.settings.points) →
      m = { s.light with settings := n }.remix.cut) →
    (n.ifw = s.light.settings.ifw → n.ifc = s.light.settings.ifc →
      s.light.auto = true → n.points ≠ s.light.settings.points →
      m = { s.light with settings := n, level := autoLevel n.points s.light.lux }.remix) →
    (n.ifw ≠ s.light.settings.ifw ∨ n.ifc ≠ s.light.settings.ifc →
      s.light.auto = true → n.points ≠ s.light.settings.points →
      m = { s.light with settings := n, level := autoLevel n.points s.light.lux }.remix.remix.cut) →
    a = (if s.light.limiting = true ∧ m.dark = false ∧ (m.lw < m.dw ∨ m.lc < m.dc)
          ∧ s.light.settings.grantLimited = false ∧ n.grantLimited = true then
        occur .grantLimited (frameDetail [(2, m.dw), (2, m.dc), (2, m.lw), (2, m.lc), (2, m.il), (2, m.g)])
          ((beginEvent s).withLight m)
      else (beginEvent s).withLight m) →
    b = (if s.light.lost = true ∧ s.light.settings.sensorLost = false ∧ n.sensorLost = true then
        occur .sensorLost (frameDetail [(2, m.lux), (2, m.level)]) a
      else a) →
    exec (.configureLight o) s = .next (carried s o (writeOutcome (offerRef o) .done .none 0 b))

/-- R116, R117: a Configure link whose record passes its checks replaces every link setting, and is DONE. -/
def Clause.ConfigureLinkReplacesSettings : Prop :=
  ∀ (s : State) (o : Offer),
    offered s .link .configureLink o = true → inHostArea (opWord o.ops 0).toNat 16 = true →
    checkLinkRecord (s.mem.readBytes (opWord o.ops 0).toNat 16) = .none →
    exec (.configureLink o) s
      = .next (carried s o (writeOutcome (offerRef o) .done .none 0
          ((beginEvent s).withLink { s.link with
            settings := linkRecord (s.mem.readBytes (opWord o.ops 0).toNat 16) })))

/-- R154, R155: a Configure power whose record passes its checks replaces every power setting, and is DONE. A
changed capacity gives Qfull = capacity × 3 600 000 and keeps the state of charge; BATTERY_LOW is then
re-evaluated. The budget is not recomputed. -/
def Clause.ConfigurePowerReplacesSettings : Prop :=
  ∀ (s : State) (o : Offer) (n : PowerSettings),
    offered s .power .configurePower o = true → inHostArea (opWord o.ops 0).toNat 48 = true →
    checkPowerRecord (s.mem.readBytes (opWord o.ops 0).toNat 48) = .none →
    n = powerRecord (s.mem.readBytes (opWord o.ops 0).toNat 48) →
    (n.capacity = s.power.settings.capacity → n.lowThreshold = s.power.settings.lowThreshold →
        exec (.configurePower o) s
          = .next (carried s o (writeOutcome (offerRef o) .done .none 0
              ((beginEvent s).withPower { s.power with settings := n }))))
      ∧ (n.capacity ≠ s.power.settings.capacity → s.power.gauge.calibrated = false →
        exec (.configurePower o) s
          = .next (carried s o (writeOutcome (offerRef o) .done .none 0
              ((beginEvent s).withPower { s.power with
                settings := n
                gauge := { s.power.gauge with
                  qfull := n.capacity * 3600000
                  qr := n.capacity * 3600000 * s.power.gauge.soc / 1000
                  soc :=
                    if n.capacity = 0 then 0
                    else n.capacity * 3600000 * s.power.gauge.soc / 1000 * 1000 / (n.capacity * 3600000) } }))))
      ∧ (n.capacity = s.power.settings.capacity → n.lowThreshold ≠ s.power.settings.lowThreshold →
        s.power.gauge.calibrated = true → s.power.batteryLow = false → s.power.gauge.soc < n.lowThreshold →
        exec (.configurePower o) s
          = .next (carried s o (writeOutcome (offerRef o) .done .none 0
              (raise .battery ((beginEvent s).withPower { s.power with
                settings := n, batteryLow := true })))))

/-- R22, R155, R159: a Configure power that changes the capacity or the low threshold re-evaluates BATTERY_LOW on a
calibrated gauge, against the SOC as it then is: from clear it is set below the threshold, and from set it is
cleared at the threshold plus 20 or above; a change raises BATTERY. On an uncalibrated gauge a changed threshold
alone is taken over and nothing is evaluated. -/
def Clause.ConfigurePowerEvaluatesLow : Prop :=
  ∀ (s u : State) (o : Offer) (n : PowerSettings) (g : Gauge) (low : Bool),
    offered s .power .configurePower o = true → inHostArea (opWord o.ops 0).toNat 48 = true →
    checkPowerRecord (s.mem.readBytes (opWord o.ops 0).toNat 48) = .none →
    n = powerRecord (s.mem.readBytes (opWord o.ops 0).toNat 48) →
    g = (if n.capacity = s.power.settings.capacity then s.power.gauge
      else { s.power.gauge with
        qfull := n.capacity * 3600000
        qr := n.capacity * 3600000 * s.power.gauge.soc / 1000
        soc :=
          if n.capacity = 0 then 0
          else n.capacity * 3600000 * s.power.gauge.soc / 1000 * 1000 / (n.capacity * 3600000) }) →
    low = (if s.power.batteryLow then decide (g.soc < n.lowThreshold + 20) else decide (g.soc < n.lowThreshold)) →
    u = (beginEvent s).withPower { s.power with settings := n, gauge := g, batteryLow := low } →
    ((n.capacity ≠ s.power.settings.capacity ∨ n.lowThreshold ≠ s.power.settings.lowThreshold) →
        s.power.gauge.calibrated = true →
        exec (.configurePower o) s
          = .next (carried s o (writeOutcome (offerRef o) .done .none 0
              (if low = s.power.batteryLow then u else raise .battery u))))
      ∧ (n.capacity = s.power.settings.capacity → s.power.gauge.calibrated = false →
        exec (.configurePower o) s
          = .next (carried s o (writeOutcome (offerRef o) .done .none 0
              ((beginEvent s).withPower { s.power with settings := n }))))

/-- R22, R35, R36, R51, R116, R117, R154, R155, R159: Configure panel, Configure link and Configure power, with the
actions of what they change (log 51 for the detail of TEMP_RANGE). -/
def Obligations.ConfigurePanelLinkAndPower : Prop :=
  Clause.ConfigurePanelTakesRecord ∧ Clause.ConfigurePanelEnablesTempRange ∧ Clause.ConfigureLinkReplacesSettings
    ∧ Clause.ConfigurePowerReplacesSettings ∧ Clause.ConfigurePowerEvaluatesLow

/-! ## Waveform sets -/

/-- R45: Load waveform set. A set that is LOADING or a lane that is not FREE refuses it BUSY, a length outside 128
to 4194304 RANGE, and a source outside the host area PROTECTED. Otherwise the set becomes LOADING, the band
index -1 and the outcome QUEUED, and the entries that wait now wait for the set (in the same event:
the model's choice, log 28). -/
def Obligations.LoadWaveformSetStartsLoading : Prop :=
  ∀ (s : State) (o : Offer) (len : Nat),
    offered s .panel .loadWaveformSet o = true → (opWord o.ops 4).toNat = len →
    ((s.panel.setState.isLoading = true ∨ allLanesFree s.panel = false) →
        exec (.loadWaveformSet o) s
          = .next (carried s o (writeOutcome (offerRef o) .refused .busy 0 (beginEvent s))))
      ∧ (s.panel.setState.isLoading = false → allLanesFree s.panel = true →
          ((len < 128 ∨ 4194304 < len) →
            exec (.loadWaveformSet o) s
              = .next (carried s o (writeOutcome (offerRef o) .refused .range 0 (beginEvent s))))
          ∧ (128 ≤ len → len ≤ 4194304 → inHostArea (opWord o.ops 0).toNat len = false →
            exec (.loadWaveformSet o) s
              = .next (carried s o (writeOutcome (offerRef o) .refused .protectedArea 0 (beginEvent s))))
          ∧ (128 ≤ len → len ≤ 4194304 → inHostArea (opWord o.ops 0).toNat len = true →
            exec (.loadWaveformSet o) s
              = .next (carried s o
                  ((writeOutcome (offerRef o) .queued .none 0 (beginEvent s)).withPanel { s.panel with
                    setState := .loading ⟨opWord o.ops 0, len, offerRef o, 0⟩
                    band := none
                    range := .inRange
                    queue := s.panel.queue.map fun e => { e with hold := .set, clock := none } }))))

/-- R46 to R48, R51: the completion of a load. The rest of the set is copied, the copy is checked, and the set
becomes VALID with the band that contains the last temperature, and the Load is DONE with the set's identifier,
band count and length; or ABSENT with WAVEFORM_BAD posted, the Load FAILED WAVEFORM_BAD with the number of the
check and the identifier, and every entry failed NO_WAVEFORM. The outcomes are stated for a queue of no entry or of
one. -/
def Clause.LoadCompletionSettlesSet : Prop :=
  ∀ (s : State) (job : LoadJob) (m : Memory) (k : Nat),
    s.panel.setState = .loading job →
    m = s.mem.writeBytes (Config.waveBase + job.copied)
      (s.mem.readBytes (job.source.toNat + job.copied) (job.length - job.copied)) →
    k = waveCheck m job.length →
    ∃ u, exec .waveformLoadComplete s = .next (concluded u)
      ∧ (k = 0 → u.panel.setState = .valid ∧ u.panel.lastTemp = s.panel.lastTemp
          ∧ u.panel.range = rangeOf m s.panel.lastTemp
          ∧ u.panel.uncertain = s.panel.uncertain ∧ u.panel.ring = s.panel.ring
          ∧ u.panel.band = some
              (if u.panel.range = .outLow then 0 else if u.panel.range = .outHigh then waveBands m - 1
               else bandContaining m s.panel.lastTemp)
          ∧ (s.panel.queue = [] → ∃ t, t.mem = m ∧ t.panel = u.panel ∧ t.readers = s.readers
              ∧ u = writeOutcome job.rep .done .none
                  (outcomeDetail [(4, waveIdent m), (2, waveBands m), (4, waveTotal m)]) t))
      ∧ (k ≠ 0 → u.panel.setState = .absent ∧ u.panel.band = none ∧ u.panel.queue = []
          ∧ u.panel.lanes = s.panel.lanes ∧ u.panel.ring = s.panel.ring
          ∧ (faultOf u .panel).posted = some .waveformBad
          ∧ (faultOf u .panel).frame.origin = some job.rep
          ∧ (faultOf u .panel).frame.detail = frameDetail [(4, job.source.toNat), (1, k)]
          ∧ (faultOf u .panel).accrued = (faultOf s .panel).accrued ||| 1
          ∧ u.notices.getLsbD 4 = true
          ∧ (∀ w, w = occurNonmaskable .waveformBad (some job.rep)
                (frameDetail [(4, job.source.toNat), (1, k)])
                (writeOutcome job.rep .failed .waveformBad (outcomeDetail [(1, k), (4, waveIdent m)])
                  (((beginEvent s).withMem m).withPanel
                    { s.panel with setState := .absent, band := none, queue := [] })) →
              (s.panel.queue = [] → u = w)
                ∧ ∀ e, s.panel.queue = [e] → e.origin.isSleep = false →
                    u = reportTo e.origin.report .failed .noWaveform
                      (outcomeDetail [(1, 255), (1, e.mode.code), (1, 0), (1, 0), (4, 0), (2, e.rect.w),
                        (2, e.rect.h), (1, bitsNat [e.promoted, e.clipped, false])]) w))
      ∧ u.power.budget = s.power.budget ∧ u.link = s.link

/-- R47: the checks of a copied set, in their order: the number of the first that fails, or 0. -/
def Clause.WaveformChecksInOrder : Prop :=
  ∀ (m : Memory) (len : Nat),
    (waveCheck m len = 0 ↔
        waveTotal m = len
          ∧ (crc32 (m.readBytes (Config.waveBase + 8) (len - 8))).toNat = waveCrc m
          ∧ 1 ≤ waveBands m ∧ waveBands m ≤ 16
          ∧ (∀ i, i ≤ waveBands m → -40 ≤ waveBound m i ∧ waveBound m i ≤ 85)
          ∧ (∀ i, i < waveBands m → waveBound m i < waveBound m (i + 1))
          ∧ (∀ k b, k < 4 → b < waveBands m → 1 ≤ waveFrames m k b ∧ waveFrames m k b ≤ 255)
          ∧ (∀ k, k < 4 → waveBurst m k ≤ 500)
          ∧ waveTotal m = 128 + 64 * waveTables m)
      ∧ (waveTotal m ≠ len → waveCheck m len = 1)
      ∧ (waveTotal m = len → (crc32 (m.readBytes (Config.waveBase + 8) (len - 8))).toNat ≠ waveCrc m →
          waveCheck m len = 2)
      ∧ ∀ sound bands bounds frames bursts : Prop,
          (sound ↔ waveTotal m = len ∧ (crc32 (m.readBytes (Config.waveBase + 8) (len - 8))).toNat = waveCrc m) →
          (bands ↔ 1 ≤ waveBands m ∧ waveBands m ≤ 16) →
          (bounds ↔ (∀ i, i ≤ waveBands m → -40 ≤ waveBound m i ∧ waveBound m i ≤ 85)
            ∧ ∀ i, i < waveBands m → waveBound m i < waveBound m (i + 1)) →
          (frames ↔ ∀ k b, k < 4 → b < waveBands m → 1 ≤ waveFrames m k b ∧ waveFrames m k b ≤ 255) →
          (bursts ↔ ∀ k, k < 4 → waveBurst m k ≤ 500) →
          (sound → ¬ bands → waveCheck m len = 3)
            ∧ (sound → bands → ¬ bounds → waveCheck m len = 4)
            ∧ (sound → bands → bounds → ¬ frames → waveCheck m len = 5)
            ∧ (sound → bands → bounds → frames → ¬ bursts → waveCheck m len = 6)
            ∧ (sound → bands → bounds → frames → bursts → waveTotal m ≠ 128 + 64 * waveTables m →
                waveCheck m len = 7)

/-- R47, 12.6: where the fields of the set's header stand in the waveform store. -/
def Clause.WaveformHeaderFields : Prop :=
  ∀ (m : Memory) (b : Nat → Nat), (∀ i, b i = (m.read (0x3800000 + i)).toNat) →
    waveIdent m = b 0 + 256 * b 1 + 65536 * b 2 + 16777216 * b 3
      ∧ waveCrc m = b 4 + 256 * b 5 + 65536 * b 6 + 16777216 * b 7
      ∧ waveTotal m = b 8 + 256 * b 9 + 65536 * b 10 + 16777216 * b 11 ∧ waveBands m = b 12
      ∧ (∀ i, waveBound m i = if b (13 + i) < 128 then (b (13 + i) : Int) else (b (13 + i) : Int) - 256)
      ∧ (∀ k c, waveFrames m k c = b (30 + 16 * k + c))
      ∧ (∀ k, waveBurst m k = b (94 + 2 * k) + 256 * b (94 + 2 * k + 1))
      ∧ waveTables m
          = ((List.range 4).map fun k => ((List.range (b 12)).map fun c => b (30 + 16 * k + c)).sum).sum

/-- R46 to R48, R51: the checks of a copied set and the completion of a load (flag bits of a failed entry's detail:
log 18). -/
def Obligations.WaveformLoadCompletes : Prop :=
  Clause.LoadCompletionSettlesSet ∧ Clause.WaveformChecksInOrder ∧ Clause.WaveformHeaderFields

/-- R191: a lane that drives frame `f` in a mode and band reads its table behind all the tables that come before
it, and the code for present level `p` and target level `t` at two bits of byte 4 p + t / 4 of that table. In a
set that passed its checks that byte lies within the set. Of the header, only the band count and the frame counts
of the set's own bands are read, and of the tables only that byte. -/
def Obligations.DriveTableLocated : Prop :=
  ∀ (m : Memory) (mode band f p t k : Nat),
    k = ((List.range mode).map fun j =>
          ((List.range (waveBands m)).map fun b => (m.read (0x3800000 + 30 + 16 * j + b)).toNat).sum).sum
        + ((List.range band).map fun b => (m.read (0x3800000 + 30 + 16 * mode + b)).toNat).sum + f →
    driveCode m mode band f p t
        = (m.read (0x3800000 + 128 + 64 * k + 4 * p + t / 4)).toNat / 2 ^ (2 * (t % 4)) % 4
      ∧ (∀ len, waveCheck m len = 0 → mode < 4 → band < waveBands m → f < waveFrames m mode band → p < 16 →
          t < 16 → 128 + 64 * k + 4 * p + t / 4 < len)
      ∧ (∀ m' : Memory, band ≤ waveBands m → m'.read (0x3800000 + 12) = m.read (0x3800000 + 12) →
          (∀ j b, j ≤ mode → b < waveBands m →
            m'.read (0x3800000 + 30 + 16 * j + b) = m.read (0x3800000 + 30 + 16 * j + b)) →
          m'.read (0x3800000 + 128 + 64 * k + 4 * p + t / 4)
            = m.read (0x3800000 + 128 + 64 * k + 4 * p + t / 4) →
          driveCode m' mode band f p t = driveCode m mode band f p t)

/-! ## The pending queue and the lanes -/

/-- R55 to R57: what an Update region does with operands that pass or fail its checks, in their order. One that
passes them all joins the newest end of the queue with its outcome QUEUED, and the start scan runs. -/
def Clause.UpdateRegionTaken : Prop :=
  ∀ (s : State) (o : Offer) (r : Rect) (stride : Nat) (image : Word),
    offered s .panel .updateRegion o = true → updateRect o.ops = r → (opHalf o.ops 12).toNat = stride →
    opWord o.ops 8 = image →
    ((3 < (opByte o.ops 14).toNat ∨ r.x % 2 = 1 ∨ r.w % 2 = 1) →
        exec (.updateRegion o) s
          = .next (carried s o (writeOutcome (offerRef o) .refused .range 0 (beginEvent s))))
      ∧ (∀ m, modeOf (opByte o.ops 14).toNat = some m → r.x % 2 = 0 → r.w % 2 = 0 →
          ((r.w = 0 ∨ r.h = 0) →
            exec (.updateRegion o) s
              = .next (carried s o (writeOutcome (offerRef o) .done .none 0 (beginEvent s))))
          ∧ (r.w ≠ 0 → r.h ≠ 0 → stride < r.w / 2 →
            exec (.updateRegion o) s
              = .next (carried s o (writeOutcome (offerRef o) .refused .range 0 (beginEvent s))))
          ∧ (r.w ≠ 0 → r.h ≠ 0 → r.w / 2 ≤ stride → s.panel.setState = .absent →
            exec (.updateRegion o) s
              = .next (carried s o (writeOutcome (offerRef o) .refused .noWaveform 0 (beginEvent s))))
          ∧ (r.w ≠ 0 → r.h ≠ 0 → r.w / 2 ≤ stride → s.panel.setState ≠ .absent →
            tempRefusal s.panel = true →
            exec (.updateRegion o) s
              = .next (carried s o (writeOutcome (offerRef o) .refused .temperature 0 (beginEvent s))))
          ∧ (r.w ≠ 0 → r.h ≠ 0 → r.w / 2 ≤ stride → s.panel.setState ≠ .absent →
            tempRefusal s.panel = false → r.x + r.w ≤ s.panel.settings.width →
            r.y + r.h ≤ s.panel.settings.height →
            exec (.updateRegion o) s
              = .next (carried s o
                  (if inHostArea image.toNat ((r.h - 1) * stride + r.w / 2) then
                    scan ((writeOutcome (offerRef o) .queued .none 0 (beginEvent s)).withPanel { s.panel with
                      queue := s.panel.queue ++
                        [⟨.request (offerRef o), r, image, stride, m, false, false, .none, none, false⟩] })
                  else writeOutcome (offerRef o) .refused .protectedArea 0 (beginEvent s)))))

/-- R56: an Update region whose rectangle is not on the panel is an occurrence of CLIPPED. With the flag enabled
it is refused CLIPPED; masked, it is DONE when nothing is left, and else its rectangle is clipped at the right
and bottom edges. -/
def Clause.UpdateRegionClipsOrRefuses : Prop :=
  ∀ (s : State) (o : Offer) (r : Rect) (m : Mode) (w h : Nat),
    offered s .panel .updateRegion o = true → updateRect o.ops = r →
    modeOf (opByte o.ops 14).toNat = some m → r.x % 2 = 0 → r.w % 2 = 0 → r.w ≠ 0 → r.h ≠ 0 →
    r.w / 2 ≤ (opHalf o.ops 12).toNat → s.panel.setState ≠ .absent → tempRefusal s.panel = false →
    (s.panel.settings.width < r.x + r.w ∨ s.panel.settings.height < r.y + r.h) →
    w = min r.w (s.panel.settings.width - r.x) → h = min r.h (s.panel.settings.height - r.y) →
    (s.panel.settings.mask.clipped = true →
        exec (.updateRegion o) s
          = .next (carried s o (writeOutcome (offerRef o) .refused .clipped 0
              (accrue .clipped (beginEvent s)))))
      ∧ (s.panel.settings.mask.clipped = false →
          (s.panel.settings.width ≤ r.x ∨ s.panel.settings.height ≤ r.y) →
          exec (.updateRegion o) s
            = .next (carried s o (writeOutcome (offerRef o) .done .none
                (outcomeDetail [(1, 255), (1, m.code), (1, 0), (1, 0), (4, 0), (2, 0), (2, 0), (1, 2)])
                (accrue .clipped (beginEvent s)))))
      ∧ (s.panel.settings.mask.clipped = false → r.x < s.panel.settings.width →
          r.y < s.panel.settings.height →
          exec (.updateRegion o) s
            = .next (carried s o
                (if inHostArea (opWord o.ops 8).toNat ((h - 1) * (opHalf o.ops 12).toNat + w / 2) then
                  scan ((writeOutcome (offerRef o) .queued .none 0 (accrue .clipped (beginEvent s))).withPanel
                    { s.panel with
                      queue := s.panel.queue ++
                        [⟨.request (offerRef o), { r with w := w, h := h }, opWord o.ops 8,
                          (opHalf o.ops 12).toNat, m, false, true, .none, none, false⟩] })
                else
                  writeOutcome (offerRef o) .refused .protectedArea 0 (accrue .clipped (beginEvent s)))))

/-- 1.1, R51, R57: the checks that the requests share: the bytes of a range all lie in the host area, and the
temperature range refusal is in force. -/
def Clause.HostAreaAndRangeRefusal : Prop :=
  (∀ a n : Nat, n ≠ 0 → (inHostArea a n = true ↔ ∀ i, i < n → 0x400 ≤ a + i ∧ a + i ≤ 0x2FFFFFF))
    ∧ ∀ p : Panel, tempRefusal p = true
      ↔ p.setState = .valid ∧ p.range ≠ .inRange ∧ p.settings.mask.tempRange = true

/-- R51, R55 to R57: Update region, with its clipping (flag bits: log 18). -/
def Obligations.UpdateRegionChecksAndQueues : Prop :=
  Clause.UpdateRegionTaken ∧ Clause.UpdateRegionClipsOrRefuses ∧ Clause.HostAreaAndRangeRefusal

/-- R60: Cancel update. It withdraws an entry that waits, whose outcome becomes CANCELLED; it is refused
TOO_LATE for an update in a lane or one recorded as final, and RANGE otherwise. -/
def Clause.CancelUpdateWithdrawsEntry : Prop :=
  ∀ (s : State) (o : Offer) (bundle : Word), offered s .panel .cancelUpdate o = true → opWord o.ops 0 = bundle →
    (2 < (opByte o.ops 4).toNat →
        exec (.cancelUpdate o) s
          = .next (carried s o (writeOutcome (offerRef o) .refused .range 0 (beginEvent s))))
      ∧ ∀ slot : Fin 3, (opByte o.ops 4).toNat = slot.1 →
        (∀ (i : Nat) (e : Entry) (r : ReqRef), s.panel.queue[i]? = some e → e.origin = .request r →
            r.bundle = bundle → r.slot = slot →
            (∀ j < i, ∀ (d : Entry) (q : ReqRef), s.panel.queue[j]? = some d → d.origin = .request q →
              ¬ (q.bundle = bundle ∧ q.slot = slot)) →
            exec (.cancelUpdate o) s
              = .next (carried s o (writeOutcome (offerRef o) .done .none (outcomeDetail [(1, i)])
                  (writeOutcome r .cancelled .none 0
                    ((beginEvent s).withPanel { s.panel with queue := s.panel.queue.eraseIdx i })))))
          ∧ ((∀ e ∈ s.panel.queue, ∀ q, e.origin = .request q → ¬ (q.bundle = bundle ∧ q.slot = slot)) →
            (∀ (n : Fin 16) (r : ReqRef), (laneOf s n).isFree = false →
                (laneOf s n).origin = some (.request r) → r.bundle = bundle → r.slot = slot →
                (∀ j < n, ∀ q, (laneOf s j).isFree = false → (laneOf s j).origin = some (.request q) →
                  ¬ (q.bundle = bundle ∧ q.slot = slot)) →
                exec (.cancelUpdate o) s
                  = .next (carried s o (writeOutcome (offerRef o) .refused .tooLate (outcomeDetail [(1, n.1)])
                      (beginEvent s))))
              ∧ ((∀ n q, (laneOf s n).isFree = false → (laneOf s n).origin = some (.request q) →
                    ¬ (q.bundle = bundle ∧ q.slot = slot)) →
                exec (.cancelUpdate o) s
                  = .next (carried s o
                      (if recordedFinal s bundle slot then
                        writeOutcome (offerRef o) .refused .tooLate (outcomeDetail [(1, 255)]) (beginEvent s)
                      else writeOutcome (offerRef o) .refused .range 0 (beginEvent s)))))

/-- R61 to R64: an entry not yet examined that the start scan starts. It meets no running lane and no older entry, a lane is
FREE, it meets no uncertain rectangle or is SETTLE, and its claim fits the budget: it leaves the queue, fills
the lowest FREE lane, and its claim lowers the light grant. (The entry of a sleep image also notes its lane,
R172.) -/
def Clause.EntryStartFillsLane : Prop :=
  ∀ (s : State) (pos : Fin 32) (e : Entry) (n : Fin 16) (band : Nat),
    s.panel.queue[pos.1]? = some e → e.hold = .none → e.origin.isSleep = false →
    s.panel.setState = .valid → tempRefusal s.panel = false → s.panel.band = some band →
    (∀ i, (laneOf s i).isFree = false → e.rect.meets (laneOf s i).rect = false) →
    (∀ d ∈ s.panel.queue.take pos.1, e.rect.meets d.rect = false) →
    (laneOf s n).isFree = true → (∀ i, i < n → (laneOf s i).isFree = false) →
    (e.mode = .settle ∨ isUncertain s.panel e.rect = false) →
    committed s + waveBurst s.mem e.mode.code ≤ s.power.budget →
    ∃ u, exec (.entryStart pos) s = .next (concluded u)
      ∧ u.panel = { s.panel with
          queue := s.panel.queue.eraseIdx pos.1
          lanes := s.panel.lanes.set n.1
            ⟨.loading, e.rect, e.mode, band, 0, waveFrames s.mem e.mode.code band, 0,
              waveBurst s.mem e.mode.code, some e.origin, e.promoted, e.clipped, e.image, e.stride, 0⟩ n.2 }
      ∧ u.light = s.light.push (s.power.budget - committed u)
      ∧ ((laneOf s n).claim = 0 → committed u = committed s + waveBurst s.mem e.mode.code)
      ∧ u.mem = s.mem ∧ u.readers = s.readers ∧ u.link = s.link ∧ u.power = s.power ∧ u.faults = s.faults
      ∧ u.notices = s.notices

/-- R63: an entry in a mode other than SETTLE that meets the uncertain list, with UNCERTAIN masked, accrues the
fault and becomes SETTLE for good; held by its claim, it waits with its budget clock running. -/
def Clause.UncertainEntryPromoted : Prop :=
  ∀ (s : State) (pos : Fin 32) (e : Entry),
    s.panel.queue[pos.1]? = some e → e.hold = .none → s.panel.setState = .valid → tempRefusal s.panel = false →
    (∀ i, (laneOf s i).isFree = false → e.rect.meets (laneOf s i).rect = false) →
    (∀ d ∈ s.panel.queue.take pos.1, e.rect.meets d.rect = false) →
    (∃ n, (laneOf s n).isFree = true) →
    e.mode ≠ .settle → isUncertain s.panel e.rect = true → s.panel.settings.mask.uncertain = false →
    s.power.budget < committed s + waveBurst s.mem 0 →
    exec (.entryStart pos) s
      = .next (concluded ((accrue .uncertain (beginEvent s)).withPanel { s.panel with
          queue := s.panel.queue.set pos.1
            { e with mode := .settle, promoted := true, hold := .budget, clock := some (e.clock.getD 0) } }))

/-- R43, R63, R64: such an entry whose claim in SETTLE fits the budget starts in the same scan: the fault accrues, and
the entry leaves the queue and fills the lowest FREE lane in mode SETTLE, promoted, with SETTLE's frame count and burst
current. -/
def Clause.PromotedEntryStarts : Prop :=
  ∀ (s : State) (i : Nat) (e : Entry) (n : Fin 16) (band : Nat),
    s.panel.queue[i]? = some e → e.origin.isSleep = false → s.panel.band = some band →
    (∀ k, (laneOf s k).isFree = false → e.rect.meets (laneOf s k).rect = false) →
    (∀ d ∈ s.panel.queue.take i, e.rect.meets d.rect = false) →
    (laneOf s n).isFree = true → (∀ k, k < n → (laneOf s k).isFree = false) →
    e.mode ≠ .settle → isUncertain s.panel e.rect = true → s.panel.settings.mask.uncertain = false →
    committed s + waveBurst s.mem 0 ≤ s.power.budget →
    (∃ u, examineEntry i e s = (u, true)
      ∧ u.panel = { s.panel with
          queue := s.panel.queue.eraseIdx i
          lanes := s.panel.lanes.set n.1
            ⟨.loading, e.rect, .settle, band, 0, waveFrames s.mem 0 band, 0, waveBurst s.mem 0, some e.origin, true,
              e.clipped, e.image, e.stride, 0⟩ n.2 }
      ∧ u.light = s.light.push (s.power.budget - committed u)
      ∧ ((laneOf s n).claim = 0 → committed u = committed s + waveBurst s.mem 0)
      ∧ faultOf u .panel
          = { faultOf s .panel with accrued := (faultOf s .panel).accrued ||| FaultKind.uncertain.flag }
      ∧ (∀ d, d ≠ .panel → faultOf u d = faultOf s d)
      ∧ u.mem = s.mem ∧ u.readers = s.readers ∧ u.link = s.link ∧ u.power = s.power ∧ u.notices = s.notices)
    ∧ (∀ pos : Fin 32, i = pos.1 → e.hold = .none → s.panel.setState = .valid → tempRefusal s.panel = false →
        exec (.entryStart pos) s = .next (concluded (examineEntry i e (beginEvent s)).1))

/-- R58, R61: an entry that a scan has held does not start between two scan events. -/
def Clause.HeldEntryWaitsForScan : Prop :=
  ∀ (s : State) (pos : Fin 32) (e : Entry), s.panel.queue[pos.1]? = some e → e.hold ≠ .none →
    exec (.entryStart pos) s = .next (concluded (beginEvent s))

/-- R62 to R65: what the start scan does with an entry that it does not start and does not promote. It is held by
the first condition that it fails: LANE, OLDER, NO_LANE, each with its budget clock stopped, or BUDGET with the
clock running on or started. One that is uncertain with UNCERTAIN enabled leaves the queue: the fault accrues, and
the request that it reports to fails UNCERTAIN, or, with none, the fault is offered to the posted place. -/
def Clause.ScanHoldsOrFailsEntry : Prop :=
  ∀ (s : State) (i : Nat) (e : Entry) (meets older lane : Prop), s.panel.queue[i]? = some e →
    (meets ↔ ∃ n, (laneOf s n).isFree = false ∧ e.rect.meets (laneOf s n).rect = true) →
    (older ↔ ∃ d ∈ s.panel.queue.take i, e.rect.meets d.rect = true) →
    (lane ↔ ∃ n, (laneOf s n).isFree = true) →
    (meets → examineEntry i e s
        = (s.withPanel { s.panel with queue := s.panel.queue.set i { e with hold := .lane, clock := none } }, false))
      ∧ (¬ meets → older → examineEntry i e s
        = (s.withPanel { s.panel with queue := s.panel.queue.set i { e with hold := .older, clock := none } }, false))
      ∧ (¬ meets → ¬ older → ¬ lane → examineEntry i e s
        = (s.withPanel { s.panel with queue := s.panel.queue.set i { e with hold := .noLane, clock := none } },
            false))
      ∧ (¬ meets → ¬ older → lane → (e.mode = .settle ∨ isUncertain s.panel e.rect = false) →
          s.power.budget < committed s + waveBurst s.mem e.mode.code →
          examineEntry i e s
            = (s.withPanel { s.panel with
                queue := s.panel.queue.set i { e with hold := .budget, clock := some (e.clock.getD 0) } }, false))
      ∧ (¬ meets → ¬ older → lane → e.mode ≠ .settle → isUncertain s.panel e.rect = true →
          s.panel.settings.mask.uncertain = true → e.origin.isSleep = false →
          (∀ r, e.origin.report = some r →
            examineEntry i e s
              = (writeOutcome r .failed .uncertain
                  (outcomeDetail [(1, 255), (1, e.mode.code), (1, 0), (1, 0), (4, 0), (2, e.rect.w),
                    (2, e.rect.h), (1, bitsNat [e.promoted, e.clipped, false])])
                  (accrue .uncertain (s.withPanel { s.panel with queue := s.panel.queue.eraseIdx i })), true))
          ∧ (e.origin.report = none →
            examineEntry i e s
              = (occur .uncertain
                  (frameDetail [(2, e.rect.x), (2, e.rect.y), (2, e.rect.w), (2, e.rect.h), (1, e.origin.code)])
                  (s.withPanel { s.panel with queue := s.panel.queue.eraseIdx i }), true)))

/-- R61, R62: the scan examines the entries from the oldest on, each against the state that the ones before it have
left, an entry that stays at its place and one behind an entry that has left at the place before. While the set is
not VALID, or the temperature range refusal is in force, it holds every entry with SET and stops its clock. -/
def Clause.ScanExaminesOldestFirst : Prop :=
  ∀ s : State,
    ((s.panel.setState ≠ .valid ∨ tempRefusal s.panel = true) →
        scan s = (s.withPanel { s.panel with
          queue := s.panel.queue.map fun e => { e with hold := .set, clock := none } }).withScanned true)
      ∧ (s.panel.setState = .valid → tempRefusal s.panel = false →
          (s.panel.queue = [] → scan s = s.withScanned true)
            ∧ (∀ e, s.panel.queue = [e] → scan s = (examineEntry 0 e s).1.withScanned true)
            ∧ ∀ d e t left, s.panel.queue = [d, e] → examineEntry 0 d s = (t, left) →
                (left = true → t.panel.queue = [e] → scan s = (examineEntry 0 e t).1.withScanned true)
                  ∧ (left = false → t.panel.queue[1]? = some e →
                    scan s = (examineEntry 1 e t).1.withScanned true))

/-- R58, R61, R62: one scan serves the arrivals of one event. The first runs it over the whole queue; an entry that joins
after that is examined alone, and the older ones keep their holds and budget clocks. That the scan which has run takes
every later arrival of its event is the model's reading (log 46). -/
def Clause.OneScanServesArrivals : Prop :=
  ∀ (s : State) (e : Entry) (q : List Entry), q = s.panel.queue ++ [e] →
    (beginEvent s).scanned = false ∧ (scan s).scanned = true
      ∧ (s.scanned = false → addEntry e s = scan (s.withPanel { s.panel with queue := q }))
      ∧ (s.scanned = true → s.panel.setState = .valid → tempRefusal s.panel = false →
          addEntry e s = (examineEntry s.panel.queue.length e (s.withPanel { s.panel with queue := q })).1
            ∧ ∀ i, i < s.panel.queue.length → (addEntry e s).panel.queue[i]? = s.panel.queue[i]?)
      ∧ (s.scanned = true → (s.panel.setState ≠ .valid ∨ tempRefusal s.panel = true) →
          addEntry e s = s.withPanel { s.panel with
            queue := q.map fun d => { d with hold := .set, clock := none } })

/-- R34, R43, R63, 9.5: what the scan compares: two rectangles meet when they share a pixel, one lies within another
when each of its pixels does, an entry is uncertain when it meets the list or finds the flag set, and the committed
current is the radio claim with the claims of the lanes. -/
def Clause.RectanglesAndClaims : Prop :=
  ∀ (s : State) (a b : Rect) (covers : Rect → Nat → Nat → Prop),
    (∀ r x y, covers r x y ↔ r.x ≤ x ∧ x < r.x + r.w ∧ r.y ≤ y ∧ y < r.y + r.h) →
    (a.meets b = true ↔ ∃ x y, covers a x y ∧ covers b x y)
      ∧ (0 < a.w → 0 < a.h → (a.within b = true ↔ ∀ x y, covers a x y → covers b x y))
      ∧ (isUncertain s.panel a = true
          ↔ s.panel.wholePanel = true ∨ ∃ u ∈ s.panel.uncertain, ∃ x y, covers u x y ∧ covers a x y)
      ∧ committed s = s.power.radioClaim + ((List.finRange 16).map fun n => (laneOf s n).claim).sum

/-- R34, R43, R58, R61 to R65, R76: the start of an entry, the promotion of one that is uncertain, and the holds and
failures of the start scan (flag bits of a failure's detail: log 18; one scan in an event: log 46). -/
def Obligations.EntryStartsOrIsPromoted : Prop :=
  Clause.EntryStartFillsLane ∧ Clause.UncertainEntryPromoted ∧ Clause.HeldEntryWaitsForScan
    ∧ Clause.ScanHoldsOrFailsEntry ∧ Clause.ScanExaminesOldestFirst ∧ Clause.RectanglesAndClaims
    ∧ Clause.PromotedEntryStarts ∧ Clause.OneScanServesArrivals

/-- R65, R76: the expiry of an entry's budget clock. Masked, BUDGET_WAIT accrues once for the entry, which goes
on waiting with its clock stopped. Enabled, the entry leaves the queue: the request it reports to fails
BUDGET_WAIT and the fault accrues; with no request to report to, the fault is offered to the posted place. The flag
bits of the detail are the model's choice (log 18). -/
def Clause.BudgetClockExpires : Prop :=
  ∀ (s : State) (pos : Fin 32) (e : Entry) (t : Nat),
    s.panel.queue[pos.1]? = some e → e.clock = some t → s.panel.settings.budgetLimit ≠ 0 →
    e.origin.isSleep = false →
    (s.panel.settings.mask.budgetWait = false →
        exec (.budgetClockExpiry pos) s
          = .next (concluded (if e.counted then
              (beginEvent s).withPanel { s.panel with
                queue := s.panel.queue.set pos.1 { e with clock := none, counted := true } }
            else accrue .budgetWait ((beginEvent s).withPanel { s.panel with
              queue := s.panel.queue.set pos.1 { e with clock := none, counted := true } }))))
      ∧ (∀ r, s.panel.settings.mask.budgetWait = true → e.origin.report = some r →
          exec (.budgetClockExpiry pos) s
            = .next (concluded (writeOutcome r .failed .budgetWait
                (outcomeDetail [(1, 255), (1, e.mode.code), (1, 0), (1, 0), (4, 0), (2, e.rect.w), (2, e.rect.h),
                  (1, bitsNat [e.promoted, e.clipped, false])])
                (accrue .budgetWait ((beginEvent s).withPanel { s.panel with
                  queue := s.panel.queue.eraseIdx pos.1 })))))
      ∧ (s.panel.settings.mask.budgetWait = true → e.origin.report = none →
          exec (.budgetClockExpiry pos) s
            = .next (concluded (occur .budgetWait
                (frameDetail [(2, e.rect.x), (2, e.rect.y), (2, e.rect.w), (2, e.rect.h),
                  (2, waveBurst s.mem e.mode.code), (2, s.power.budget)])
                ((beginEvent s).withPanel { s.panel with queue := s.panel.queue.eraseIdx pos.1 }))))

/-- R60, R65, R76: the entries that leave the queue without a start, withdrawn by Cancel update or by the expiry of their
budget clock (log 18 for the flag bits of the detail). -/
def Obligations.EntriesWithdrawnOrExpired : Prop :=
  Clause.CancelUpdateWithdrawsEntry ∧ Clause.BudgetClockExpires

/-- R39, R41, R66: the loading of one pixel writes its target-plane byte, the target level with 16 added when the
pixel is marked, counts a marked pixel, and changes no other byte. -/
def Clause.PixelLoadingWritesTargetByte : Prop :=
  ∀ (mode : Mode) (x y source count : Nat) (m : Memory), m.wf = true → source < 16 →
    ∃ (t : Nat) (marked : Bool),
      t = (match mode with
        | .settle | .tone => source
        | .crisp | .swift => if source ≤ 7 then 0 else 15)
      ∧ (marked = true ↔ mode = .settle ∨ t ≠ (m.read (0x3000000 + 2048 * y + x)).toNat % 16)
      ∧ (loadPixel mode x y source (m, count)).2 = count + (if marked then 1 else 0)
      ∧ ((loadPixel mode x y source (m, count)).1.read (0x3400000 + 2048 * y + x)).toNat
          = t + (if marked then 16 else 0)
      ∧ ∀ a, a ≠ 0x3400000 + 2048 * y + x →
          (loadPixel mode x y source (m, count)).1.read a = m.read a

/-- R34, R38, R39, R41, R66: the loading of row `r` of a lane, whose image lies below the planes. Pixel `i` takes
its source level from byte `i / 2` of the image row, the low four bits for an even one; its target-plane byte is
written, marked pixels are counted, and no other byte changes. -/
def Clause.RowLoadingReadsImageRow : Prop :=
  ∀ (l : Lane) (r count : Nat) (m : Memory) (source target : Nat → Nat) (marked : Nat → Bool), m.wf = true →
    l.rect.w % 2 = 0 → l.rect.x + l.rect.w ≤ 2048 → l.rect.y + r < 2048 →
    l.image.toNat + r * l.stride + l.rect.w / 2 ≤ 0x3000000 →
    (∀ i, source i = (m.read (l.image.toNat + r * l.stride + i / 2)).toNat / 16 ^ (i % 2) % 16) →
    (∀ i, target i = match l.mode with
      | .settle | .tone => source i
      | .crisp | .swift => if source i ≤ 7 then 0 else 15) →
    (∀ i, marked i = true ↔ l.mode = .settle
      ∨ target i ≠ (m.read (0x3000000 + 2048 * (l.rect.y + r) + (l.rect.x + i))).toNat % 16) →
    (∀ i, i < l.rect.w →
        ((loadRow l (m, count) r).1.read (0x3400000 + 2048 * (l.rect.y + r) + (l.rect.x + i))).toNat
          = target i + if marked i then 16 else 0)
      ∧ (∀ a, (a < 0x3400000 + 2048 * (l.rect.y + r) + l.rect.x
            ∨ 0x3400000 + 2048 * (l.rect.y + r) + l.rect.x + l.rect.w ≤ a) →
          (loadRow l (m, count) r).1.read a = m.read a)
      ∧ (loadRow l (m, count) r).2 = count + ((List.range l.rect.w).filter marked).length

/-- R66: LOADING reads the rows in rising order, as many at a time as it gets to (log 5), each as a whole (log 39),
and its end reads what is left. -/
def Clause.LoadingReadsRowsInOrder : Prop :=
  ∀ (s : State) (n : Fin 16) (l : Lane), laneOf s n = l →
    (l.rows < l.rect.h →
        loadRows n 1 s = (s.withMem (loadRow l (s.mem, l.marked) l.rows).1).withPanel { s.panel with
          lanes := s.panel.lanes.set n.1
            { l with marked := (loadRow l (s.mem, l.marked) l.rows).2, rows := l.rows + 1 } n.2 })
      ∧ (∀ j k, l.rows ≤ l.rect.h → loadRows n j (loadRows n k s) = loadRows n (k + j) s)
      ∧ (l.state = .loading → l.rows ≤ l.rect.h →
          exec (.loadingComplete n) s = exec (.loadingComplete n) (loadRows n (l.rect.h - l.rows) s))
      ∧ (s.pending = [] → (∀ i, i ≠ n → (laneOf s i).state ≠ .loading) → l.state = .loading → l.rows ≤ l.rect.h →
          s.panel.setState.isLoading = false → writingRecord s = none →
          ∃ t k, step s = .next t ∧ laneOf t n = laneOf (loadRows n k s) n ∧ t.mem = (loadRows n k s).mem)

/-- R59, R67, R68: a lane whose last row is read ends LOADING. With marked pixels it enters DRIVING, its update
reads STARTED, and the frame clock runs; with none it becomes FREE with DONE, its claim is released and the scan
runs. (A sleep image's lane reports to the power engine, R172.) -/
def Clause.LoadingEndsInDriving : Prop :=
  ∀ (s : State) (n : Fin 16) (l : Lane) (origin : EntryOrigin) (rep : Option ReqRef),
    laneOf s n = l → l.state = .loading → l.rows = l.rect.h → l.origin = some origin →
    origin.isSleep = false → origin.report = rep →
    (l.marked ≠ 0 →
        exec (.loadingComplete n) s
          = .next (concluded ((reportTo rep .started .none
              (outcomeDetail [(1, n.1), (1, l.mode.code), (1, l.band), (1, 0), (4, l.marked), (2, l.rect.w),
                (2, l.rect.h), (1, bitsNat [l.promoted, l.clipped, false])]) (beginEvent s)).withPanel
            { s.panel with
              lanes := s.panel.lanes.set n.1 { l with state := .driving, frameIndex := 0 } n.2
              frameClock := some (s.panel.frameClock.getD s.panel.settings.framePeriod) })))
      ∧ (l.marked = 0 →
        exec (.loadingComplete n) s
          = .next (concluded (scan (reportTo rep .done .none
              (outcomeDetail [(1, n.1), (1, l.mode.code), (1, l.band), (1, 0), (4, 0), (2, l.rect.w),
                (2, l.rect.h), (1, bitsNat [l.promoted, l.clipped, false])])
              (released ((beginEvent s).withPanel { s.panel with
                lanes := s.panel.lanes.set n.1 Lane.free n.2 }))))))

/-- R68, R69: a panel frame. A DRIVING lane below its frame count drives one more frame; at its frame count it
enters CLOSING; other lanes take no part. The clock goes on while a lane is DRIVING, and stops else. -/
def Clause.PanelFrameDrivesLanes : Prop :=
  ∀ s : State, s.panel.frameClock.isSome = true →
    ∃ u, exec .panelFrame s = .next (concluded u)
      ∧ (∀ n : Fin 16, laneOf u n =
          (if (laneOf s n).state = .driving then
            if (laneOf s n).frameIndex < (laneOf s n).frameCount then
              { laneOf s n with frameIndex := (laneOf s n).frameIndex + 1 }
            else { laneOf s n with state := .closing }
          else laneOf s n))
      ∧ (u.panel.frameClock = some s.panel.settings.framePeriod
          ↔ ∃ n : Fin 16, (laneOf s n).state = .driving ∧ (laneOf s n).frameIndex < (laneOf s n).frameCount)
      ∧ (u.panel.frameClock = none ∨ u.panel.frameClock = some s.panel.settings.framePeriod)
      ∧ u.panel.queue = s.panel.queue ∧ u.panel.ring = s.panel.ring ∧ u.mem = s.mem
      ∧ u.readers = s.readers ∧ u.light = s.light ∧ u.link = s.link ∧ u.power = s.power ∧ u.faults = s.faults
      ∧ u.notices = s.notices ∧ (calm s = true → exec .panelFrame s = .next u)

/-- R34, R38, R39, R41, R59, R66 to R69: the loading of a pixel and of rows (logs 5 and 39), the end of LOADING (flag
bits: log 18), and a panel frame. -/
def Obligations.LanesLoadAndDrive : Prop :=
  Clause.PixelLoadingWritesTargetByte ∧ Clause.LoadingEndsInDriving ∧ Clause.PanelFrameDrivesLanes
    ∧ Clause.RowLoadingReadsImageRow ∧ Clause.LoadingReadsRowsInOrder

/-- R40, R70, R71: the close of a lane's rectangle, within the planes, writes the target level of each marked
pixel into the present plane and changes no other byte. -/
def Clause.CloseWritesPresentPlane : Prop :=
  ∀ (m : Memory) (r : Rect), m.wf = true → r.x + r.w ≤ 2048 → r.y + r.h ≤ 2048 →
    (∀ x y, r.x ≤ x → x < r.x + r.w → r.y ≤ y → y < r.y + r.h →
        (closeRect m r).read (0x3000000 + 2048 * y + x)
          = if (m.read (0x3400000 + 2048 * y + x)).toNat / 16 % 2 = 1 then
              BitVec.ofNat 8 ((m.read (0x3400000 + 2048 * y + x)).toNat % 16)
            else m.read (0x3000000 + 2048 * y + x))
      ∧ (∀ a, (∀ x y, r.x ≤ x → x < r.x + r.w → r.y ≤ y → y < r.y + r.h → a ≠ 0x3000000 + 2048 * y + x) →
          (closeRect m r).read a = m.read a)

/-- R43, R71, R72: the close completion of a lane. The present plane is written, a SETTLE lane clears the
uncertain entries within its rectangle, the lane becomes FREE and its claim is released, its update reads DONE,
and the scan runs. (A sleep image's lane reports to the power engine, R172.) -/
def Clause.CloseCompletionFreesLane : Prop :=
  ∀ (s : State) (n : Fin 16) (l : Lane) (origin : EntryOrigin) (rep : Option ReqRef),
    laneOf s n = l → l.state = .closing → l.origin = some origin → origin.isSleep = false →
    origin.report = rep →
    exec (.closeComplete n) s
      = .next (concluded (scan (reportTo rep .done .none
          (outcomeDetail [(1, n.1), (1, l.mode.code), (1, l.band), (1, l.frameCount), (4, l.marked),
            (2, l.rect.w), (2, l.rect.h), (1, bitsNat [l.promoted, l.clipped, false])])
          (released (((beginEvent s).withMem (closeRect s.mem l.rect)).withPanel { s.panel with
            lanes := s.panel.lanes.set n.1 Lane.free n.2
            uncertain :=
              if l.mode ≠ .settle then s.panel.uncertain
              else if l.rect = fullPanel s.panel.settings then []
              else s.panel.uncertain.filter fun u => !u.within l.rect
            wholePanel :=
              s.panel.wholePanel && !(l.mode == .settle && l.rect == fullPanel s.panel.settings) })))))

/-- R40, R43, R70 to R72: the close of a rectangle and the close completion of its lane (flag bits: log 18). -/
def Obligations.LanesClose : Prop :=
  Clause.CloseWritesPresentPlane ∧ Clause.CloseCompletionFreesLane

/-! ## The turn ring -/

/-- R81, R91: Stage page. A slot above 7 or a mode above 3 is refused RANGE, the current slot SLOT_CURRENT, and an
image outside the host area PROTECTED. Otherwise the slot takes the page and becomes READY; a held turn whose
target it is fires, and the outcome is DONE. -/
def Clause.StagePagePlacesPage : Prop :=
  ∀ (s : State) (o : Offer), offered s .panel .stagePage o = true →
    ((7 < (opByte o.ops 0).toNat ∨ 3 < (opByte o.ops 8).toNat) →
        exec (.stagePage o) s
          = .next (carried s o (writeOutcome (offerRef o) .refused .range 0 (beginEvent s))))
      ∧ ∀ (i : Fin 8) (m : Mode) (r : Ring), (opByte o.ops 0).toNat = i.1 →
          modeOf (opByte o.ops 8).toNat = some m →
          (i = s.panel.ring.current →
            exec (.stagePage o) s
              = .next (carried s o (writeOutcome (offerRef o) .refused .slotCurrent 0 (beginEvent s))))
          ∧ (i ≠ s.panel.ring.current →
            inHostArea (opWord o.ops 4).toNat (s.panel.settings.height * (s.panel.settings.width / 2)) = false →
            exec (.stagePage o) s
              = .next (carried s o (writeOutcome (offerRef o) .refused .protectedArea 0 (beginEvent s))))
          ∧ (i ≠ s.panel.ring.current →
            inHostArea (opWord o.ops 4).toNat (s.panel.settings.height * (s.panel.settings.width / 2)) = true →
            r = { s.panel.ring with
              slots := s.panel.ring.slots.set i.1 ⟨.ready, opWord o.ops 4, m, opWord o.ops 12⟩ i.2 } →
            (heldOn s.panel.ring i = none →
              exec (.stagePage o) s
                = .next (carried s o (writeOutcome (offerRef o) .done .none
                    (outcomeDetail [(1, i.1), (1, s.panel.ring.slots[i].tag.code), (1, 0), (1, r.current.1),
                      (2, r.ahead)])
                    ((beginEvent s).withPanel { s.panel with ring := r }))))
            ∧ (∀ d u, heldOn s.panel.ring i = some d →
              u = freshTurn d none ((beginEvent s).withPanel { s.panel with ring := { r with held := none } }) →
              exec (.stagePage o) s
                = .next (carried s o (writeOutcome (offerRef o) .done .none
                    (outcomeDetail [(1, i.1), (1, s.panel.ring.slots[i].tag.code), (1, 1),
                      (1, u.panel.ring.current.1), (2, u.panel.ring.ahead)]) u))))

/-- R82: Free slot. A slot above 7 is refused RANGE, and the current slot SLOT_CURRENT. Otherwise the tag of the
slot becomes EMPTY, its address, mode and label stay, and the outcome is DONE. -/
def Clause.FreeSlotEmptiesTag : Prop :=
  ∀ (s : State) (o : Offer), offered s .panel .freeSlot o = true →
    (7 < (opByte o.ops 0).toNat →
        exec (.freeSlot o) s
          = .next (carried s o (writeOutcome (offerRef o) .refused .range 0 (beginEvent s))))
      ∧ ∀ (i : Fin 8) (r : Ring), (opByte o.ops 0).toNat = i.1 →
          r = { s.panel.ring with
            slots := s.panel.ring.slots.set i.1 { s.panel.ring.slots[i] with tag := .empty } i.2 } →
          exec (.freeSlot o) s
            = .next (carried s o
                (if i = s.panel.ring.current then writeOutcome (offerRef o) .refused .slotCurrent 0 (beginEvent s)
                else writeOutcome (offerRef o) .done .none
                  (outcomeDetail [(1, i.1), (1, s.panel.ring.slots[i].tag.code), (2, r.ahead)])
                  ((beginEvent s).withPanel { s.panel with ring := r })))

/-- R83: Ring reset. An index above 7 is refused RANGE. Otherwise every tag becomes EMPTY, the current index
becomes the operand, a held turn is cleared, and the last turn direction stays. The request of a QUEUE_FULL held
turn is CANCELLED with the result WITHDRAWN. -/
def Clause.RingResetStartsAfresh : Prop :=
  ∀ (s : State) (o : Offer), offered s .panel .ringReset o = true →
    (7 < (opByte o.ops 0).toNat →
        exec (.ringReset o) s
          = .next (carried s o (writeOutcome (offerRef o) .refused .range 0 (beginEvent s))))
      ∧ ∀ (i : Fin 8) (u : State), (opByte o.ops 0).toNat = i.1 →
          u = (beginEvent s).withPanel { s.panel with
            ring := ⟨s.panel.ring.slots.map fun x => { x with tag := .empty }, i, s.panel.ring.dir, none⟩ } →
          exec (.ringReset o) s
            = .next (carried s o (writeOutcome (offerRef o) .done .none
                (outcomeDetail [(1, s.panel.ring.current.1), (1, if s.panel.ring.held = none then 0 else 1)])
                (reportTo (heldReport s.panel.ring.held) .cancelled .none
                  (outcomeDetail [(1, 255), (1, 4), (1, i.1), (1, s.panel.ring.current.1),
                    (4, s.panel.ring.slots[i].label.toNat), (1, 0), (1, 0)]) u)))

/-- R84, R85: Show slot. A slot above 7 is refused RANGE, an ABSENT set NO_WAVEFORM, a temperature range refusal
TEMPERATURE, and an EMPTY slot SLOT_EMPTY. Otherwise the slot becomes current and SHOWN, a held turn is cleared,
and its page joins the queue with the outcome QUEUED. -/
def Clause.ShowSlotQueuesPage : Prop :=
  ∀ (s : State) (o : Offer), offered s .panel .showSlot o = true →
    (7 < (opByte o.ops 0).toNat →
        exec (.showSlot o) s
          = .next (carried s o (writeOutcome (offerRef o) .refused .range 0 (beginEvent s))))
      ∧ ∀ i : Fin 8, (opByte o.ops 0).toNat = i.1 →
          (s.panel.setState = .absent →
            exec (.showSlot o) s
              = .next (carried s o (writeOutcome (offerRef o) .refused .noWaveform 0 (beginEvent s))))
          ∧ (s.panel.setState ≠ .absent → tempRefusal s.panel = true →
            exec (.showSlot o) s
              = .next (carried s o (writeOutcome (offerRef o) .refused .temperature 0 (beginEvent s))))
          ∧ (s.panel.setState ≠ .absent → tempRefusal s.panel = false → s.panel.ring.slots[i].tag = .empty →
            exec (.showSlot o) s
              = .next (carried s o (writeOutcome (offerRef o) .refused .slotEmpty 0 (beginEvent s))))
          ∧ (s.panel.setState ≠ .absent → tempRefusal s.panel = false → s.panel.ring.slots[i].tag ≠ .empty →
            exec (.showSlot o) s
              = .next (carried s o (scan
                  ((writeOutcome (offerRef o) .queued .none 0 (beginEvent s)).withPanel { s.panel with
                    ring := { s.panel.ring with
                      slots := s.panel.ring.slots.set i.1 { s.panel.ring.slots[i] with tag := .shown } i.2
                      current := i
                      held := none }
                    queue := s.panel.queue ++
                      [⟨.ring i (some (offerRef o)), fullPanel s.panel.settings, s.panel.ring.slots[i].image,
                        s.panel.settings.width / 2, s.panel.ring.slots[i].mode, false, false, .none, none,
                        false⟩] }))))

/-- R81 to R85, R91: Stage page, Free slot, Ring reset and Show slot. -/
def Obligations.RingRequestsPlacePages : Prop :=
  Clause.StagePagePlacesPage ∧ Clause.FreeSlotEmptiesTag ∧ Clause.RingResetStartsAfresh ∧ Clause.ShowSlotQueuesPage

/-- R86, R87: a Turn that is refused, and a Turn that finds a held turn: in its direction it is ignored; in the
other it clears the held turn, and takes back one that was held for want of a place. -/
def Clause.TurnSettledByHeldTurn : Prop :=
  ∀ (s : State) (o : Offer), offered s .panel .turn o = true →
    (1 < (opByte o.ops 0).toNat →
        exec (.turn o) s = .next (carried s o (writeOutcome (offerRef o) .refused .range 0 (beginEvent s))))
      ∧ ∀ d : Dir, opByte o.ops 0 = BitVec.ofNat 8 d.code →
          (s.panel.setState = .absent →
            exec (.turn o) s
              = .next (carried s o (writeOutcome (offerRef o) .refused .noWaveform 0 (beginEvent s))))
          ∧ (s.panel.setState ≠ .absent → tempRefusal s.panel = true →
            exec (.turn o) s
              = .next (carried s o (writeOutcome (offerRef o) .refused .temperature 0 (beginEvent s))))
          ∧ (s.panel.setState ≠ .absent → tempRefusal s.panel = false →
            (∀ h, s.panel.ring.held = some h → h.dir = d →
              exec (.turn o) s
                = .next (carried s o (writeOutcome (offerRef o) .done .none
                    (outcomeDetail [(1, 255), (1, 2), (1, s.panel.ring.current.1), (1, (heldSlot s.panel.ring h).1),
                      (4, s.panel.ring.slots[s.panel.ring.current].label.toNat), (1, s.panel.ring.ahead),
                      (1, heldCode (some h))]) (beginEvent s))))
            ∧ (s.panel.ring.held = some (.slotEmpty d.flip) →
              exec (.turn o) s
                = .next (carried s o (writeOutcome (offerRef o) .done .none
                    (outcomeDetail [(1, 255), (1, 3), (1, s.panel.ring.current.1),
                      (1, (ringStep s.panel.ring.current d.flip).1),
                      (4, s.panel.ring.slots[s.panel.ring.current].label.toNat), (1, s.panel.ring.ahead), (1, 0)])
                    ((beginEvent s).withPanel { s.panel with ring := { s.panel.ring with held := none } }))))
            ∧ (∀ f former rep r, s.panel.ring.held = some (.queueFull d.flip f former rep) →
              r = { s.panel.ring with
                slots := s.panel.ring.slots.set s.panel.ring.current.1
                  { s.panel.ring.slots[s.panel.ring.current] with tag := former } s.panel.ring.current.2
                current := f
                held := none } →
              exec (.turn o) s
                = .next (carried s o (writeOutcome (offerRef o) .done .none
                    (outcomeDetail [(1, 255), (1, 3), (1, f.1), (1, s.panel.ring.current.1),
                      (4, r.slots[f].label.toNat), (1, r.ahead), (1, 0)])
                    (reportTo rep .cancelled .none
                      (outcomeDetail [(1, 255), (1, 4), (1, f.1), (1, s.panel.ring.current.1),
                        (4, r.slots[f].label.toNat), (1, r.ahead), (1, 0)])
                      ((beginEvent s).withPanel { s.panel with ring := r }))))))

/-- R88, R89, R92, R93: a Turn that finds no held turn. With its target EMPTY it is held, is DONE with the result
HELD and raises RING. Otherwise the ring moves onto the target: its page joins the queue, is written over a ring
entry that is the newest (whose own request is DONE, SUPERSEDED), or is held when the queue is full; RING is raised when the ahead count falls below the
low-water setting. -/
def Clause.TurnReachesTarget : Prop :=
  ∀ (s : State) (o : Offer) (d : Dir) (n : Fin 8) (r : Ring) (entry : Entry),
    offered s .panel .turn o = true → opByte o.ops 0 = BitVec.ofNat 8 d.code →
    s.panel.setState ≠ .absent → tempRefusal s.panel = false → s.panel.ring.held = none →
    n = ringStep s.panel.ring.current d →
    r = { s.panel.ring with
      slots := s.panel.ring.slots.set n.1 { s.panel.ring.slots[n] with tag := .shown } n.2
      current := n
      dir := d } →
    entry = ⟨.ring n (some (offerRef o)), fullPanel s.panel.settings, s.panel.ring.slots[n].image,
      s.panel.settings.width / 2, s.panel.ring.slots[n].mode, false, false, .none, none, false⟩ →
    (s.panel.ring.slots[n].tag = .empty →
        exec (.turn o) s
          = .next (carried s o (writeOutcome (offerRef o) .done .none
              (outcomeDetail [(1, 255), (1, 1), (1, s.panel.ring.current.1), (1, n.1),
                (4, s.panel.ring.slots[s.panel.ring.current].label.toNat), (1, 0),
                (1, match d with | .next => 1 | .prev => 2)])
              (raise .ring ((beginEvent s).withPanel { s.panel with
                ring := { s.panel.ring with dir := d, held := some (.slotEmpty d) } })))))
      ∧ ∀ raised : State → State,
          (raised = fun u => if r.ahead < s.panel.settings.lowWater then raise .ring u else u) →
          s.panel.ring.slots[n].tag ≠ .empty →
          ((∀ e, s.panel.queue.getLast? = some e → e.origin.isRing = false) → s.panel.queue.length < 32 →
            exec (.turn o) s
              = .next (carried s o (raised (scan
                  ((writeOutcome (offerRef o) .queued .none 0 (beginEvent s)).withPanel { s.panel with
                    ring := r, queue := s.panel.queue ++ [entry] })))))
          ∧ (∀ q e i rep, s.panel.queue = q ++ [e] → e.origin = .ring i rep →
            exec (.turn o) s
              = .next (carried s o (raised (scan
                  (writeOutcome (offerRef o) .queued .none 0
                    (reportTo rep .done .none
                      (outcomeDetail [(1, 255), (1, 5), (1, n.1), (1, i.1),
                        (4, s.panel.ring.slots[n].label.toNat), (1, r.ahead), (1, 0)])
                      ((beginEvent s).withPanel { s.panel with
                        ring := r
                        queue := q ++ [{ e with
                          origin := .ring n (some (offerRef o))
                          image := s.panel.ring.slots[n].image
                          mode := s.panel.ring.slots[n].mode
                          promoted := false
                          counted := false
                          clock := none
                          hold := .none }] })))))))
          ∧ ((∀ e, s.panel.queue.getLast? = some e → e.origin.isRing = false) → s.panel.queue ≠ [] →
            32 ≤ s.panel.queue.length →
            exec (.turn o) s
              = .next (carried s o (raised
                  ((writeOutcome (offerRef o) .queued .none 0 (beginEvent s)).withPanel { s.panel with
                    ring := { r with
                      held := some (.queueFull d s.panel.ring.current s.panel.ring.slots[n].tag
                        (some (offerRef o))) } }))))

/-- R90: the first place freed in the queue goes to a held turn with cause QUEUE_FULL: its entry, made from the
current slot, joins the queue; with the set ABSENT no entry is made, and its request fails NO_WAVEFORM with lane
255. The mode, the width and the height of that detail are the model's reading (log 21). -/
def Clause.HeldTurnTakesFreedPlace : Prop :=
  ∀ (s : State) (d : Dir) (f : Fin 8) (former : Tag) (rep : Option ReqRef) (c : Fin 8),
    s.asleep = false → s.panel.ring.held = some (.queueFull d f former rep) → s.panel.queue.length < 32 →
    c = s.panel.ring.current →
    (s.panel.setState ≠ .absent →
        exec .heldTurnQueued s
          = .next (concluded (scan ((beginEvent s).withPanel { s.panel with
              ring := { s.panel.ring with held := none }
              queue := s.panel.queue ++
                [⟨.ring c rep, fullPanel s.panel.settings, s.panel.ring.slots[c].image,
                  s.panel.settings.width / 2, s.panel.ring.slots[c].mode, false, false, .none, none, false⟩] }))))
      ∧ (s.panel.setState = .absent →
        exec .heldTurnQueued s
          = .next (concluded (reportTo rep .failed .noWaveform
              (outcomeDetail [(1, 255), (1, s.panel.ring.slots[c].mode.code), (1, 0), (1, 0), (4, 0),
                (2, s.panel.settings.width), (2, s.panel.settings.height), (1, 0)])
              ((beginEvent s).withPanel { s.panel with ring := { s.panel.ring with held := none } }))))

/-- R86 to R90, R92, R93: Turn, and the held turn that takes a freed place, with the detail of log 21 when it
fails. -/
def Obligations.TurnsMoveRing : Prop :=
  Clause.TurnSettledByHeldTurn ∧ Clause.TurnReachesTarget ∧ Clause.HeldTurnTakesFreedPlace

/-! ## Front light -/

/-- R101: the target duties and the light claim from the level in use and the warmth, with their ranges. -/
def Clause.LightMixComputed : Prop :=
  ∀ l : Light,
    (∃ y yw, y = l.level * l.level / 1000 ∧ yw = y * l.warmth / 100
        ∧ l.mix.dw = yw * 4095 / 1000 ∧ l.mix.dc = (y - yw) * 4095 / 1000)
      ∧ l.mix.dw * l.settings.ifw + l.mix.dc * l.settings.ifc ≤ l.mix.il * 4095
      ∧ (∀ n, l.mix.dw * l.settings.ifw + l.mix.dc * l.settings.ifc ≤ n * 4095 → l.mix.il ≤ n)
      ∧ (l.level ≤ 1000 → l.warmth ≤ 100 → l.settings.ifw ≤ 100 → l.settings.ifc ≤ 100 →
          l.mix.dw ≤ 4095 ∧ l.mix.dc ≤ 4095 ∧ l.mix.il ≤ 200)
      ∧ (l.level = 0 → l.mix.dw = 0 ∧ l.mix.dc = 0 ∧ l.mix.il = 0)
      ∧ (l.warmth = 0 → l.mix.dw = 0) ∧ (l.warmth = 100 → l.mix.dc = 0)
      ∧ l.mix = { l with dw := l.mix.dw, dc := l.mix.dc, il := l.mix.il }

/-- R98, R99: Set light. An auto flag above 1 is refused RANGE. Otherwise the warmth and, by the mode, the level
are taken over, the mix is recomputed, nothing is cut, and the outcome is DONE. -/
def Clause.SetLightTakesLevelAndWarmth : Prop :=
  ∀ (s : State) (o : Offer) (level warmth : Nat) (l : Light),
    offered s .light .setLight o = true → (opHalf o.ops 0).toNat = level → (opByte o.ops 2).toNat = warmth →
    (1 < (opByte o.ops 3).toNat →
        exec (.setLight o) s
          = .next (carried s o (writeOutcome (offerRef o) .refused .range 0 (beginEvent s))))
      ∧ ((opByte o.ops 3).toNat ≤ 1 →
          l = ({ s.light with
            warmth := min warmth 100
            auto := opByte o.ops 3 == 1
            level :=
              if opByte o.ops 3 = 0 then min level 1000
              else if s.light.auto then s.light.level
              else autoLevel s.light.settings.points s.light.lux } : Light).mix.limit →
          l.pw = s.light.pw ∧ l.pc = s.light.pc
            ∧ exec (.setLight o) s
                = .next (carried s o (writeOutcome (offerRef o) .done .none
                    (outcomeDetail [(2, l.level), (1, l.warmth), (1, if l.auto then 1 else 0), (2, l.dw),
                      (2, l.dc), (2, l.lw), (2, l.lc),
                      (1, bitsNat [decide (1000 < level), decide (100 < warmth), l.limitingNow])])
                    ((beginEvent s).withLight l))))

/-- R98, R99, R101: Set light, and the target duties and light claim that it computes. The flag bits of its detail are
the model's choice (log 18). Beside the auto flag 1 a level that is not 0 has been refused by R27 (log 36). -/
def Obligations.SetLightComputesMix : Prop :=
  Clause.LightMixComputed ∧ Clause.SetLightTakesLevelAndWarmth

/-- R102, R103: the limited duties and what a grant push does. The limited duties draw no more than the grant; a
channel above its new limited duty is cut to it at once, and a push that leaves G unchanged changes nothing. -/
def Clause.GrantPushLimitsAndCuts : Prop :=
  ∀ (l : Light) (g : Nat),
    (g = l.g → l.push g = l)
      ∧ (g ≠ l.g →
          (l.push g).g = g
            ∧ (l.dark = false → l.il ≤ g → (l.push g).lw = l.dw ∧ (l.push g).lc = l.dc)
            ∧ (l.dark = false → g < l.il → (l.push g).lw = l.dw * g / l.il ∧ (l.push g).lc = l.dc * g / l.il)
            ∧ (l.dark = true → (l.push g).lw = 0 ∧ (l.push g).lc = 0)
            ∧ (l.push g).pw = min l.pw (l.push g).lw ∧ (l.push g).pc = min l.pc (l.push g).lc
            ∧ (drawn l.settings l.dw l.dc ≤ l.il * 4095 →
                drawn l.settings (l.push g).lw (l.push g).lc ≤ g * 4095
                  ∧ drawn l.settings (l.push g).pw (l.push g).pc ≤ g * 4095)
            ∧ l.push g = { l with
                g := g, lw := (l.push g).lw, lc := (l.push g).lc, pw := (l.push g).pw, pc := (l.push g).pc })

/-- R104, R105: a ramp step moves each present duty toward its limited duty: a channel above is lowered by the
step size at most, then a channel below is raised by the least of the step size, the distance and the room that
the grant leaves, the warm channel first. The clock stops when both duties are reached. -/
def Clause.RampStepMovesDuties : Prop :=
  ∀ (s : State) (l : Light) (w c w' c' roomW roomC : Nat), s.light = l → l.ramp.isSome = true →
    s.asleep = false →
    w = (if l.lw < l.pw then max l.lw (l.pw - l.settings.step) else l.pw) →
    c = (if l.lc < l.pc then max l.lc (l.pc - l.settings.step) else l.pc) →
    roomW = (l.g * 4095 - (w * l.settings.ifw + c * l.settings.ifc)) / l.settings.ifw →
    w' = (if w < l.lw then w + min l.settings.step (min (l.lw - w) roomW) else w) →
    roomC = (l.g * 4095 - (w' * l.settings.ifw + c * l.settings.ifc)) / l.settings.ifc →
    c' = (if c < l.lc then c + min l.settings.step (min (l.lc - c) roomC) else c) →
    exec .rampStep s
        = .next (concluded ((beginEvent s).withLight { l with
            pw := w', pc := c', ramp := if w' = l.lw ∧ c' = l.lc then none else some 10 }))
      ∧ (calm s = true → ∃ t, exec .rampStep s = .next t
          ∧ t.light = { l with pw := w', pc := c', ramp := if w' = l.lw ∧ c' = l.lc then none else some 10 }
          ∧ t.mem = s.mem ∧ t.readers = s.readers ∧ t.panel = s.panel ∧ t.link = s.link ∧ t.power = s.power
          ∧ t.faults = s.faults ∧ t.notices = s.notices
          ∧ t.conds.values.getLsbD 6 = (decide (0 < w') || decide (0 < c')))

/-- R102 to R105: limiting and the cut at a grant push, and the ramp step. -/
def Obligations.DutiesFollowGrant : Prop :=
  Clause.GrantPushLimitsAndCuts ∧ Clause.RampStepMovesDuties

/-- R107: the auto level of a table whose lux values rise, for every reading: the first level at or below the
first point, the last level at or above the last, and on a segment the level on the line, truncated toward its
first point; it lies between the two levels of the segment. -/
def Obligations.AutoLevelFromTable : Prop :=
  ∀ (points : List (Nat × Nat)) (a : Nat), pointsOk points = true → 2 ≤ points.length →
    (∀ p, points.head? = some p → a ≤ p.1 → autoLevel points a = p.2)
      ∧ (∀ p, points.getLast? = some p → p.1 ≤ a → autoLevel points a = p.2)
      ∧ (∀ i p q, points[i]? = some p → points[i + 1]? = some q → p.1 ≤ a → a < q.1 →
          (autoLevel points a : Int)
              = p.2 + (((a : Int) - p.1) * ((q.2 : Int) - p.2)).tdiv ((q.1 : Int) - p.1)
            ∧ (a = p.1 → autoLevel points a = p.2)
            ∧ min p.2 q.2 ≤ autoLevel points a ∧ autoLevel points a ≤ max p.2 q.2)
      ∧ autoLevel points a ≤ 1000

/-- R106, R108, R110: the ambient samples. A sample starts with its clock, and runs; an answer gives the reading,
ends a sensor-lost episode, and in AUTO mode adopts an auto level that differs by the hysteresis or more; a
sample without an answer keeps the reading, and begins a sensor-lost episode when none is in progress. -/
def Obligations.AmbientSamplesTaken : Prop :=
  ∀ (s : State) (lux : Half),
    (s.light.sampleClock.isSome = true →
        exec .ambientSampleStart s
          = .next (concluded ((beginEvent s).withLight { s.light with sample := some 0, sampleClock := some 500 })))
      ∧ (s.light.sample.isSome = true →
          (∀ v, v = autoLevel s.light.settings.points lux.toNat →
            exec (.ambientSampleAnswer lux) s
              = .next (concluded ((beginEvent s).withLight
                  (if s.light.auto = true
                      ∧ s.light.settings.hysteresis ≤ max v s.light.level - min v s.light.level then
                    ({ s.light with sample := none, lux := lux.toNat, lost := false, level := v }
                      : Light).mix.limit
                  else { s.light with sample := none, lux := lux.toNat, lost := false }))))
          ∧ (s.light.lost = true →
            exec .ambientSampleTimeout s
              = .next (concluded ((beginEvent s).withLight { s.light with sample := none })))
          ∧ (s.light.lost = false →
            exec .ambientSampleTimeout s
              = .next (concluded (occur .sensorLost (frameDetail [(2, s.light.lux), (2, s.light.level)])
                  ((beginEvent s).withLight { s.light with sample := none, lost := true })))))

/-! ## Radio link -/

/-- R118: Radio on. With the rail ON it is DONE, already on. Otherwise it asks for its claim: granted, the claim is
committed, the light grant is pushed, the rail is ON and the receiver in HUNT; not granted, it is refused
NO_BUDGET. -/
def Clause.RadioOnAsksForClaim : Prop :=
  ∀ (s : State) (o : Offer) (c : Nat), offered s .link .radioOn o = true → c = s.link.settings.current →
    (s.link.rail = true →
        exec (.radioOn o) s
          = .next (carried s o (writeOutcome (offerRef o) .done .none
              (outcomeDetail [(1, 1), (1, 0), (2, 0), (2, s.power.budget), (2, committed s)]) (beginEvent s))))
      ∧ (s.link.rail = false → s.power.budget < committed s + c →
        exec (.radioOn o) s
          = .next (carried s o (writeOutcome (offerRef o) .refused .noBudget
              (outcomeDetail [(1, 0), (1, 0), (2, c), (2, s.power.budget), (2, committed s)]) (beginEvent s))))
      ∧ (s.link.rail = false → committed s + c ≤ s.power.budget →
        exec (.radioOn o) s
          = .next (carried s o (writeOutcome (offerRef o) .done .none
              (outcomeDetail [(1, 0), (1, 0), (2, c), (2, s.power.budget), (2, c + laneClaims s.panel)])
              ((((beginEvent s).withLink { s.link with
                rail := true
                connected := false
                signal := 0
                receiver := ⟨.hunt, false, s.link.receiver.crc⟩
                parcels := s.link.parcels.map fun p => { p with quiet := p.quiet.resume } }).withPower
                { s.power with radioClaim := c }).withLight
                (s.light.push (s.power.budget - (c + laneClaims s.panel)))))))

/-- R119: Radio off. With the rail OFF it is DONE, already off. Otherwise the rail goes OFF: the claim is released,
the light grant pushed, the receiver enters HUNT, the frames not yet handled and those to be sent are dropped,
the quiet timers pause, and the start scan runs. -/
def Clause.RadioOffReleasesClaim : Prop :=
  ∀ (s u v : State) (o : Offer), offered s .link .radioOff o = true →
    (s.link.rail = false →
        exec (.radioOff o) s
          = .next (carried s o (writeOutcome (offerRef o) .done .none
              (outcomeDetail [(1, 2), (1, 0), (2, 0), (2, s.power.budget), (2, committed s)]) (beginEvent s))))
      ∧ (s.link.rail = true →
          u = ((beginEvent s).withLink { s.link with
            rail := false
            connected := false
            signal := 0
            receiver := ⟨.hunt, false, s.link.receiver.crc⟩
            buffers := Vector.ofFn fun b => if s.link.handling = some b then s.link.buffers[b] else []
            fifo := []
            outbound := []
            sending := none
            sent := 0
            line := none
            parcels := s.link.parcels.map fun p => { p with quiet := p.quiet.pause } }).withPower
            { s.power with radioClaim := 0 } →
          v = scan ((u.withPower { u.power with
              shortfall := s.power.shortfall && decide (s.power.budget < committed u) }).withLight
            (s.light.push (s.power.budget - committed u))) →
          exec (.radioOff o) s
            = .next (carried s o (writeOutcome (offerRef o) .done .none
                (outcomeDetail [(1, 0), (1, 0), (2, s.power.radioClaim), (2, v.power.budget), (2, committed v)])
                v)))

/-- R118, R119: Radio on and Radio off. The bits of the two flags in the detail are the model's choice (log 18), and so
is a line on which nothing has been sent since the rail went ON (log 23). -/
def Obligations.RadioRailSwitches : Prop :=
  Clause.RadioOnAsksForClaim ∧ Clause.RadioOffReleasesClaim

/-- R120 to R122: the receiver byte by byte while the rail is ON. A delimiter ends HUNT and DISCARD; in FRAME an
escape sets the escape flag, a byte that decodes is written and the CRC advanced over it, and a wrong first byte
drops the frame without a fault, by the settings in force at that byte (log 41). -/
def Clause.ReceiverTakesBytes : Prop :=
  ∀ (s : State) (b : Fin 4) (x d : Byte), s.link.rail = true → x ≠ 0xE7 →
    (s.link.receiver.state = .hunt →
        exec .huntDelimiter s
          = .next (concluded ((beginEvent s).withLink { s.link with
              receiver := ⟨.idle, false, s.link.receiver.crc⟩ })))
      ∧ (∀ c, s.link.receiver.state = .discard c →
        exec .discardDelimiter s
          = .next (concluded ((beginEvent s).withLink { s.link with
              receiver := ⟨.idle, false, s.link.receiver.crc⟩ })))
      ∧ (s.link.receiver.state = .frame b → s.link.receiver.escape = false → x = 0xE5 →
        exec (.frameDataByte x) s
          = .next (concluded ((beginEvent s).withLink { s.link with
              receiver := ⟨.frame b, true, s.link.receiver.crc⟩ })))
      ∧ (s.link.receiver.state = .frame b → (x ≠ 0xE5 ∨ s.link.receiver.escape = true) →
          d = (if s.link.receiver.escape then x ^^^ 0x40 else x) →
          (s.link.buffers[b].length < 1034 →
            (s.link.buffers[b] = [] → s.link.settings.filter = true → d = s.link.settings.station ∨ d = 0xFF) →
            exec (.frameDataByte x) s
              = .next (concluded ((beginEvent s).withLink { s.link with
                  receiver := ⟨.frame b, false, crc16Byte s.link.receiver.crc d⟩
                  buffers := s.link.buffers.set b.1 (s.link.buffers[b] ++ [d]) b.2 })))
          ∧ (s.link.buffers[b] = [] → s.link.settings.filter = true → d ≠ s.link.settings.station → d ≠ 0xFF →
            exec (.stationMismatch x) s
              = .next (concluded ((beginEvent s).withLink { s.link with
                  receiver := ⟨.discard .station, false, s.link.receiver.crc⟩
                  buffers := s.link.buffers.set b.1 [] b.2 }))))

/-- R121: a byte in IDLE starts a frame in the lowest FREE buffer, and is taken in FRAME in the same event; with no
buffer FREE the frame is discarded with OVERRUN. -/
def Clause.FrameStartTakesBuffer : Prop :=
  ∀ (s : State) (b : Fin 4) (x : Byte), s.link.rail = true → s.link.receiver.state = .idle → x ≠ 0xE7 →
    (bufState s.link b = .free → (∀ c, c < b → bufState s.link c ≠ .free) →
        (x = 0xE5 →
          exec (.frameStart x) s
            = .next (concluded ((beginEvent s).withLink { s.link with
                receiver := ⟨.frame b, true, 0xFFFF⟩
                buffers := s.link.buffers.set b.1 [] b.2 })))
        ∧ (x ≠ 0xE5 → (s.link.settings.filter = true → x = s.link.settings.station ∨ x = 0xFF) →
          exec (.frameStart x) s
            = .next (concluded ((beginEvent s).withLink { s.link with
                receiver := ⟨.frame b, false, crc16Byte 0xFFFF x⟩
                buffers := s.link.buffers.set b.1 [x] b.2 })))
        ∧ (x ≠ 0xE5 → s.link.settings.filter = true → x ≠ s.link.settings.station → x ≠ 0xFF →
          exec (.frameStart x) s
            = .next (concluded ((beginEvent s).withLink { s.link with
                receiver := ⟨.discard .station, false, 0xFFFF⟩
                buffers := s.link.buffers.set b.1 [] b.2 }))))
      ∧ ((∀ c, bufState s.link c ≠ .free) →
        exec (.frameStart x) s
          = .next (concluded (occur .overrun
              (frameDetail [(2, s.link.fifo.length), (1, if s.link.handling = none then 0 else 1)])
              ((beginEvent s).withLink { s.link with
                receiver := ⟨.discard .overrun, false, s.link.receiver.crc⟩ }))))

/-- R120 to R122: the receiver byte by byte, from HUNT to a frame collected. The settings that decide the station
are those of its byte (log 41). -/
def Obligations.ReceiverCollectsFrames : Prop :=
  Clause.ReceiverTakesBytes ∧ Clause.FrameStartTakesBuffer

/-- R122, R123, R129: the ends of a frame without acceptance. The 1035th byte, a delimiter after an escape, and a
close that fails a check free the buffer, and each is an occurrence of its fault. -/
def Clause.FramesDroppedWithFault : Prop :=
  ∀ (s : State) (b : Fin 4) (bytes : List Byte) (x : Byte), s.link.rail = true →
    s.link.receiver.state = .frame b → s.link.buffers[b] = bytes →
    (x ≠ 0xE7 → (x ≠ 0xE5 ∨ s.link.receiver.escape = true) → 1034 ≤ bytes.length →
        exec (.sizeOverflow x) s
          = .next (concluded (occur .size
              (frameDetail [(2, bytes.length), (2, frameLength bytes), (1, frameKind bytes), (1, 1)])
              ((beginEvent s).withLink { s.link with
                receiver := ⟨.discard .size, false, s.link.receiver.crc⟩
                buffers := s.link.buffers.set b.1 [] b.2 }))))
      ∧ (s.link.receiver.escape = true →
        exec .frameAbort s
          = .next (concluded (occur .abort
              (frameDetail [(2, bytes.length), (1, frameStation bytes), (1, frameKind bytes)])
              ((beginEvent s).withLink { s.link with
                receiver := ⟨.idle, false, s.link.receiver.crc⟩
                buffers := s.link.buffers.set b.1 [] b.2 }))))
      ∧ (s.link.receiver.escape = false →
          (bytes.length < 10 ∨ (crcReceived bytes = crcComputed bytes ∧ frameLength bytes ≠ bytes.length - 10)) →
          exec .frameClose s
            = .next (concluded (occur .size
                (frameDetail [(2, bytes.length), (2, frameLength bytes), (1, frameKind bytes), (1, 2)])
                ((beginEvent s).withLink { s.link with
                  receiver := ⟨.idle, false, s.link.receiver.crc⟩
                  buffers := s.link.buffers.set b.1 [] b.2 }))))
      ∧ (s.link.receiver.escape = false → 10 ≤ bytes.length → crcReceived bytes ≠ crcComputed bytes →
          exec .frameClose s
            = .next (concluded (occur .crc
                (frameDetail [(1, frameStation bytes), (1, frameKind bytes), (2, (frameParcel bytes).toNat),
                  (2, frameBlock bytes), (2, frameLength bytes), (2, crcReceived bytes), (2, crcComputed bytes)])
                ((beginEvent s).withLink { s.link with
                  receiver := ⟨.idle, false, s.link.receiver.crc⟩
                  buffers := s.link.buffers.set b.1 [] b.2 }))))

/-- R123, R125: a frame that passes the three checks is accepted: its buffer becomes HELD as the newest in the
FIFO, and it is taken at once when no frame is being handled. -/
def Clause.FrameCloseAccepts : Prop :=
  ∀ (s : State) (b : Fin 4) (bytes : List Byte), s.link.rail = true →
    s.link.receiver.state = .frame b → s.link.receiver.escape = false → s.link.buffers[b] = bytes →
    10 ≤ bytes.length → crcReceived bytes = crcComputed bytes → frameLength bytes = bytes.length - 10 →
    exec .frameClose s
        = .next (concluded (takeFrames ((beginEvent s).withLink { s.link with
            receiver := ⟨.idle, false, s.link.receiver.crc⟩
            fifo := s.link.fifo ++ [b]
            accepted := s.link.accepted + 1 })))
      ∧ (s.link.handling ≠ none →
        exec .frameClose s
          = .next (concluded ((beginEvent s).withLink { s.link with
              receiver := ⟨.idle, false, s.link.receiver.crc⟩
              fifo := s.link.fifo ++ [b]
              accepted := s.link.accepted + 1 })))

/-- R122, R123, R125, R129: the end of a frame, dropped or accepted. How SIZE numbers its occurrences is the
model's choice (log 18). -/
def Obligations.FramesCloseOrDrop : Prop :=
  Clause.FramesDroppedWithFault ∧ Clause.FrameCloseAccepts

/-- R125, R126: the oldest HELD frame is taken. A RADIO_STATE frame gives the connected flag and the signal; a
frame of an unknown kind or of a length its kind does not have is discarded with its fault. Each is handled in
the event, and its buffer becomes FREE. -/
def Clause.PlainFramesHandled : Prop :=
  ∀ (s : State) (b : Fin 4) (bytes : List Byte),
    s.link.handling = none → s.link.fifo = [b] → s.link.buffers[b] = bytes → writingRecord s = none →
    (frameKind bytes = 4 → frameLength bytes = 2 →
        exec .takeHeldFrame s
          = .next (concluded ((beginEvent s).withLink { s.link with
              fifo := []
              buffers := s.link.buffers.set b.1 [] b.2
              connected := frameField bytes 8 1 != 0
              signal := if s.link.rail then min (frameField bytes 9 1) 100 else 0 })))
      ∧ ((frameKind bytes = 0 ∨ 4 < frameKind bytes) →
        exec .takeHeldFrame s
          = .next (concluded (occur .unknownKind
              (frameDetail [(1, frameStation bytes), (1, frameKind bytes), (2, (frameParcel bytes).toNat),
                (2, frameBlock bytes), (2, frameLength bytes)])
              ((beginEvent s).withLink { s.link with
                fifo := [], buffers := s.link.buffers.set b.1 [] b.2 }))))
      ∧ (((frameKind bytes = 1 ∧ frameLength bytes ≠ 9)
            ∨ (frameKind bytes = 2 ∧ (frameLength bytes = 0 ∨ 1024 < frameLength bytes))
            ∨ (frameKind bytes = 3 ∧ frameLength bytes ≠ 0) ∨ (frameKind bytes = 4 ∧ frameLength bytes ≠ 2)) →
        exec .takeHeldFrame s
          = .next (concluded (occur .size
              (frameDetail [(2, bytes.length), (2, frameLength bytes), (1, frameKind bytes), (1, 3)])
              ((beginEvent s).withLink { s.link with
                fifo := [], buffers := s.link.buffers.set b.1 [] b.2 }))))

/-- R138 to R140: the OPEN and BLOCK frames of a record that waits for them. An OPEN that fits makes an ARMED
record FILLING with its fields and its quiet timer; one that does not fit fails it TOO_LARGE with a REFUSE frame;
a BLOCK that a FILLING record lacks begins its block write. -/
def Clause.ParcelFramesHandled : Prop :=
  ∀ (s v : State) (b : Fin 4) (r : Fin 8) (p : Parcel) (bytes : List Byte) (total code : Nat),
    s.link.handling = none → s.link.fifo = [b] → s.link.buffers[b] = bytes → writingRecord s = none →
    recordOf s (frameParcel bytes) = some r → parcelOf s r = p →
    total = frameField bytes 8 4 → code = frameField bytes 12 1 →
    v = (beginEvent s).withLink { s.link with fifo := [], buffers := s.link.buffers.set b.1 [] b.2 } →
    (frameKind bytes = 1 → frameLength bytes = 9 → p.state = .armed → p.write = none →
        (0 < total → code ≤ 2 → total ≤ p.capacity → total ≤ 8192 * (256 * 2 ^ code) →
          exec .takeHeldFrame s
            = .next (concluded (v.withParcel r { p with
                state := .filling
                reason := .none
                verify := none
                fields := some ⟨total, 256 * 2 ^ code, (total + 256 * 2 ^ code - 1) / (256 * 2 ^ code),
                  BitVec.ofNat 32 (frameField bytes 13 4),
                  List.replicate ((total + 256 * 2 ^ code - 1) / (256 * 2 ^ code)) false, 0, 0⟩
                quiet := if s.link.rail then .running (s.link.settings.quietTime * 1000)
                  else .paused (s.link.settings.quietTime * 1000) })))
        ∧ (total = 0 → code ≤ 2 →
          ∃ u, exec .takeHeldFrame s = .next (concluded u)
            ∧ (parcelOf u r).state = (if frameField bytes 13 4 = 0 then .complete else .failed))
        ∧ ((2 < code ∨ p.capacity < total ∨ 8192 * (256 * 2 ^ code) < total) →
          exec .takeHeldFrame s
            = .next (concluded (raise .parcel (queueOut (.record r) .refuse p.number [0x02]
                (v.withParcel r { p with
                  state := .failed, reason := .tooLarge, fields := none, quiet := .stopped, write := none
                  verify := none }))))))
      ∧ (∀ f, frameKind bytes = 2 → 1 ≤ frameLength bytes → frameLength bytes ≤ 1024 → p.state = .filling →
          p.fields = some f → frameBlock bytes < f.count →
          frameLength bytes
            = (if frameBlock bytes + 1 = f.count then f.total - (f.count - 1) * f.blockSize else f.blockSize) →
          f.map.getD (frameBlock bytes) false = false →
          exec .takeHeldFrame s
            = .next (concluded (((beginEvent s).withLink { s.link with
                fifo := [], handling := some b }).withParcel r { p with write := some ⟨frameBlock bytes, 0⟩ })))

/-- R127, R138, R139: an OPEN of a record that is not ARMED, and of none. A FILLING record that it repeats is left
alone, and one that it changes starts again or fails TOO_LARGE; a COMPLETE record that it repeats queues TAKEN again;
a VERIFYING record and a changed OPEN of a COMPLETE one are left alone; for a FAILED record or none, REFUSE 0x01 is
queued and UNKNOWN_PARCEL occurs. -/
def Clause.OpenOfOtherRecords : Prop :=
  ∀ (s v : State) (b : Fin 4) (bytes : List Byte) (total code : Nat) (digest : Word),
    s.link.handling = none → s.link.fifo = [b] → s.link.buffers[b] = bytes → writingRecord s = none →
    frameKind bytes = 1 → frameLength bytes = 9 →
    total = frameField bytes 8 4 → code = frameField bytes 12 1 → digest = BitVec.ofNat 32 (frameField bytes 13 4) →
    v = (beginEvent s).withLink { s.link with fifo := [], buffers := s.link.buffers.set b.1 [] b.2 } →
    ((recordOf s (frameParcel bytes) = none
          ∨ ∃ r, recordOf s (frameParcel bytes) = some r ∧ (parcelOf s r).state = .failed) →
        exec .takeHeldFrame s
          = .next (concluded (occur .unknownParcel
              (frameDetail [(1, 1), (2, (frameParcel bytes).toNat), (2, frameBlock bytes), (1, 255)])
              (queueOut .refuse .refuse (frameParcel bytes) [0x01] v))))
      ∧ ∀ r p, recordOf s (frameParcel bytes) = some r → parcelOf s r = p →
        (p.state = .verifying → exec .takeHeldFrame s = .next (concluded v))
          ∧ ∀ (f : OpenFields) (same : Prop), p.fields = some f →
            (same ↔ f.total = total ∧ f.blockSize = 256 * 2 ^ code ∧ f.digest = digest) →
            (p.state = .filling → same → exec .takeHeldFrame s = .next (concluded v))
              ∧ (p.state = .complete → same →
                exec .takeHeldFrame s
                  = .next (concluded (queueOut (.record r) .taken p.number (leBytes 4 digest.toNat) v)))
              ∧ (p.state = .complete → ¬ same → exec .takeHeldFrame s = .next (concluded v))
              ∧ (p.state = .filling → ¬ same → 0 < total → code ≤ 2 → total ≤ p.capacity →
                total ≤ 8192 * (256 * 2 ^ code) →
                exec .takeHeldFrame s
                  = .next (concluded (v.withParcel r { p with
                      reason := .none
                      verify := none
                      fields := some ⟨total, 256 * 2 ^ code, (total + 256 * 2 ^ code - 1) / (256 * 2 ^ code),
                        digest, List.replicate ((total + 256 * 2 ^ code - 1) / (256 * 2 ^ code)) false, 0, 0⟩
                      quiet := if s.link.rail then .running (s.link.settings.quietTime * 1000)
                        else .paused (s.link.settings.quietTime * 1000) })))
              ∧ (p.state = .filling → ¬ same → (2 < code ∨ p.capacity < total ∨ 8192 * (256 * 2 ^ code) < total) →
                exec .takeHeldFrame s
                  = .next (concluded (raise .parcel (queueOut (.record r) .refuse p.number [0x02]
                      (v.withParcel r { p with
                        state := .failed, reason := .tooLarge, fields := none, quiet := .stopped, write := none
                        verify := none })))))

/-- R140: a BLOCK that begins no block write. With no record or an ARMED one, UNKNOWN_PARCEL occurs; a VERIFYING,
COMPLETE or FAILED record is left alone; of a FILLING record, a number beyond its blocks is BLOCK_RANGE, a wrong
length BLOCK_LENGTH, and a block that is there already is discarded. -/
def Clause.BlockDiscarded : Prop :=
  ∀ (s v : State) (b : Fin 4) (bytes : List Byte),
    s.link.handling = none → s.link.fifo = [b] → s.link.buffers[b] = bytes → writingRecord s = none →
    frameKind bytes = 2 → 1 ≤ frameLength bytes → frameLength bytes ≤ 1024 →
    v = (beginEvent s).withLink { s.link with fifo := [], buffers := s.link.buffers.set b.1 [] b.2 } →
    (recordOf s (frameParcel bytes) = none →
        exec .takeHeldFrame s
          = .next (concluded (occur .unknownParcel
              (frameDetail [(1, 2), (2, (frameParcel bytes).toNat), (2, frameBlock bytes), (1, 255)]) v)))
      ∧ ∀ r p, recordOf s (frameParcel bytes) = some r → parcelOf s r = p →
        (p.state = .armed →
            exec .takeHeldFrame s
              = .next (concluded (occur .unknownParcel
                  (frameDetail [(1, 2), (2, (frameParcel bytes).toNat), (2, frameBlock bytes), (1, r.1)]) v)))
          ∧ ((p.state = .verifying ∨ p.state = .complete ∨ p.state = .failed) →
            exec .takeHeldFrame s = .next (concluded v))
          ∧ ∀ (f : OpenFields) (needed : Nat), p.state = .filling → p.fields = some f →
            needed = (if frameBlock bytes + 1 = f.count then f.total - (f.count - 1) * f.blockSize
              else f.blockSize) →
            (f.count ≤ frameBlock bytes →
                exec .takeHeldFrame s
                  = .next (concluded (occur .blockRange
                      (frameDetail [(1, r.1), (2, p.number.toNat), (2, frameBlock bytes), (2, f.count)]) v)))
              ∧ (frameBlock bytes < f.count → frameLength bytes ≠ needed →
                exec .takeHeldFrame s
                  = .next (concluded (occur .blockLength
                      (frameDetail [(1, r.1), (2, p.number.toNat), (2, frameBlock bytes), (2, frameLength bytes),
                        (2, needed)]) v)))
              ∧ (frameBlock bytes < f.count → frameLength bytes = needed →
                f.map.getD (frameBlock bytes) false = true →
                exec .takeHeldFrame s = .next (concluded v))

/-- R147: an ABANDON fails a FILLING or a VERIFYING record ABANDONED and raises PARCEL; any other record, and none,
is left alone. -/
def Clause.AbandonFailsRecord : Prop :=
  ∀ (s v : State) (b : Fin 4) (bytes : List Byte),
    s.link.handling = none → s.link.fifo = [b] → s.link.buffers[b] = bytes → writingRecord s = none →
    frameKind bytes = 3 → frameLength bytes = 0 →
    v = (beginEvent s).withLink { s.link with fifo := [], buffers := s.link.buffers.set b.1 [] b.2 } →
    (recordOf s (frameParcel bytes) = none → exec .takeHeldFrame s = .next (concluded v))
      ∧ ∀ r p, recordOf s (frameParcel bytes) = some r → parcelOf s r = p →
        ((p.state = .filling ∨ p.state = .verifying) →
            exec .takeHeldFrame s
              = .next (concluded (raise .parcel (v.withParcel r { p with
                  state := .failed, reason := .abandoned, quiet := .stopped, write := none, verify := none }))))
          ∧ ((p.state = .armed ∨ p.state = .complete ∨ p.state = .failed) →
            exec .takeHeldFrame s = .next (concluded v))

/-- R125 to R127, R138 to R140, R147: the oldest HELD frame is taken and handled. How SIZE numbers its occurrences
is the model's choice (log 18). -/
def Obligations.HeldFramesHandled : Prop :=
  Clause.PlainFramesHandled ∧ Clause.ParcelFramesHandled ∧ Clause.OpenOfOtherRecords ∧ Clause.BlockDiscarded
    ∧ Clause.AbandonFailsRecord

/-- R120, R124, R128: the oldest outbound frame is sent while the rail is ON, and the next after its closing
delimiter; on the line it is its escaped header, payload and CRC-16 between delimiters. Its sending begins with the
opening delimiter and ends with the closing one. -/
def Clause.OldestFrameSent : Prop :=
  ∀ (s : State) (f : OutFrame) (q : List OutFrame), s.link.rail = true →
    (s.link.sending = none → s.link.outbound = f :: q →
        exec .frameSendStart s
          = .next (concluded ((beginEvent s).withLink { s.link with
              outbound := q, sending := some f, sent := 1, line := some 0xE7 })))
      ∧ (s.link.sending = some f →
        exec .frameSendEnd s
          = .next (concluded ((beginEvent s).withLink { s.link with
              sending := none, sent := 0, line := some 0xE7 })))
      ∧ (lineBytes f).head? = some 0xE7 ∧ (lineBytes f).getLast? = some 0xE7
      ∧ (lineBytes f).tail.dropLast
          = (f.bytes ++ leBytes 2 (crc16 f.bytes).toNat).flatMap (fun b =>
              if b = 0xE7 ∨ b = 0xE5 then [0xE5, b ^^^ 0x40] else [b])

/-- R127: a frame that the parcel table queues. It carries the station in force, its kind, its parcel number, block
number 0 and its payload length. It replaces the queued frame of its record, or the REFUSE of its parcel number, in
place; a frame of another record, and a REFUSE of another number while fewer than four REFUSE places are taken,
joins at the newest end; with the four taken the REFUSE is not queued. Nothing is queued while the rail is OFF. -/
def Clause.FramesJoinOutboundQueue : Prop :=
  ∀ (s : State) (place : OutPlace) (kind : OutKind) (number : Half) (payload : List Byte) (g : OutFrame)
    (same : OutFrame → Prop),
    g = ⟨place, number,
      [s.link.settings.station, match kind with | .gap => 0x81 | .taken => 0x82 | .refuse => 0x83]
        ++ leBytes 2 number.toNat ++ [0, 0] ++ leBytes 2 payload.length ++ payload⟩ →
    (∀ f, same f ↔ f.place = place ∧ (place = .refuse → f.parcel = number)) →
    (s.link.rail = false → queueOut place kind number payload s = s)
      ∧ (s.link.rail = true →
        (∀ before f after, s.link.outbound = before ++ f :: after → same f → (∀ d ∈ before ++ after, ¬ same d) →
            queueOut place kind number payload s
              = s.withLink { s.link with outbound := before ++ g :: after })
          ∧ ((∀ d ∈ s.link.outbound, ¬ same d) →
            (place ≠ .refuse ∨ (s.link.outbound.filter fun d => decide (d.place = .refuse)).length < 4) →
            queueOut place kind number payload s
              = s.withLink { s.link with outbound := s.link.outbound ++ [g] })
          ∧ ((∀ d ∈ s.link.outbound, ¬ same d) → place = .refuse →
            4 ≤ (s.link.outbound.filter fun d => decide (d.place = .refuse)).length →
            queueOut place kind number payload s = s))

/-- R128: one transmit clock. With the rail ON, the next byte of the frame in progress is sent, its last one ending the
sending; with none in progress the oldest frame begins with its opening delimiter, and with none queued a delimiter is
sent as fill. With the rail OFF nothing is sent. -/
def Clause.TransmitClockSendsByte : Prop :=
  ∀ l : Link,
    (l.rail = false → l.transmit = l)
      ∧ (l.rail = true →
        (∀ f, l.sending = some f → l.sent + 1 < (lineBytes f).length →
            l.transmit = { l with sent := l.sent + 1, line := (lineBytes f)[l.sent]? })
          ∧ (∀ f, l.sending = some f → l.sent + 1 = (lineBytes f).length →
            l.transmit = { l with sending := none, sent := 0, line := (lineBytes f)[l.sent]? })
          ∧ (∀ f q, l.sending = none → l.outbound = f :: q →
            l.transmit = { l with outbound := q, sending := some f, sent := 1, line := (lineBytes f)[0]? })
          ∧ (l.sending = none → l.outbound = [] → l.transmit = { l with line := some 0xE7 }))

/-- R128: the transmit clocks of an idle millisecond, as many as it gets to (logs 5 and 23). An idle transmitter sends
fill; a frame in progress goes on byte by byte up to its closing delimiter; with the rail OFF nothing is sent. -/
def Clause.IdleStepTransmits : Prop :=
  ∀ s : State, s.pending = [] →
    ∃ t, step s = .next t ∧ t.link.outbound = s.link.outbound ∧ t.link.sending = s.link.sending
      ∧ (s.link.rail = false → t.link.line = s.link.line)
      ∧ (s.link.rail = true → s.link.sending = none → s.link.outbound = [] →
          t.link.line = (if draw s 30 = 0 then s.link.line else some 0xE7))
      ∧ (∀ f, s.link.rail = true → s.link.sending = some f → s.link.sent < (lineBytes f).length →
          t.link.sent = min (s.link.sent + draw s 30) ((lineBytes f).length - 1)
            ∧ t.link.line = if s.link.sent < t.link.sent then (lineBytes f)[t.link.sent - 1]? else s.link.line)

/-- R120, R124, R127, R128: the frames that join the outbound queue, and their sending byte by byte (how far an idle
step gets: logs 5 and 23). -/
def Obligations.OutboundFramesSent : Prop :=
  Clause.OldestFrameSent ∧ Clause.FramesJoinOutboundQueue ∧ Clause.TransmitClockSendsByte
    ∧ Clause.IdleStepTransmits

/-! ## Parcels -/

/-- R134: Arm parcel. A capacity of 0 is refused RANGE, a number in use DUPLICATE, a full table TABLE_FULL, and a
buffer outside the host area PROTECTED. Otherwise the lowest FREE record is ARMED, and the outcome is DONE. -/
def Clause.ArmParcelTakesRecord : Prop :=
  ∀ (s : State) (o : Offer) (capacity : Nat), offered s .link .armParcel o = true →
    (opWord o.ops 8).toNat = capacity →
    (capacity = 0 →
        exec (.armParcel o) s
          = .next (carried s o (writeOutcome (offerRef o) .refused .range 0 (beginEvent s))))
      ∧ (capacity ≠ 0 → (∃ r, (parcelOf s r).state ≠ .free ∧ (parcelOf s r).number = opHalf o.ops 0) →
        exec (.armParcel o) s
          = .next (carried s o (writeOutcome (offerRef o) .refused .duplicate 0 (beginEvent s))))
      ∧ (capacity ≠ 0 → (∀ r, (parcelOf s r).state ≠ .free → (parcelOf s r).number ≠ opHalf o.ops 0) →
          ((∀ r, (parcelOf s r).state ≠ .free) →
            exec (.armParcel o) s
              = .next (carried s o (writeOutcome (offerRef o) .refused .tableFull 0 (beginEvent s))))
          ∧ (∀ r, (parcelOf s r).state = .free → (∀ q, q < r → (parcelOf s q).state ≠ .free) →
            exec (.armParcel o) s
              = .next (carried s o
                  (if inHostArea (opWord o.ops 4).toNat capacity then
                    writeOutcome (offerRef o) .done .none (outcomeDetail [(1, r.1)])
                      ((beginEvent s).withLink { s.link with
                        parcels := s.link.parcels.set r.1 { Parcel.free with
                          state := .armed
                          number := opHalf o.ops 0
                          buffer := opWord o.ops 4
                          capacity := capacity } r.2 })
                  else writeOutcome (offerRef o) .refused .protectedArea 0 (beginEvent s)))))

/-- R135: Cancel parcel. A number that no record holds is refused RANGE, and a COMPLETE or FAILED record TOO_LATE;
an ARMED, FILLING or VERIFYING record fails CANCELLED, PARCEL is raised, and the outcome is DONE. A block write
that stops ends its frame's handling, and the next HELD frame is taken. The zeros of the detail that names no
record are the model's choice (log 42). -/
def Clause.CancelParcelFailsRecord : Prop :=
  ∀ (s : State) (o : Offer) (r : Fin 8), offered s .link .cancelParcel o = true →
    ((∀ q, (parcelOf s q).state ≠ .free → (parcelOf s q).number ≠ opHalf o.ops 0) →
        exec (.cancelParcel o) s
          = .next (carried s o (writeOutcome (offerRef o) .refused .range (outcomeDetail [(1, 255)])
              (beginEvent s))))
      ∧ ((parcelOf s r).number = opHalf o.ops 0 →
          (∀ q, q ≠ r → (parcelOf s q).state ≠ .free → (parcelOf s q).number ≠ opHalf o.ops 0) →
          (((parcelOf s r).state = .complete ∨ (parcelOf s r).state = .failed) →
            exec (.cancelParcel o) s
              = .next (carried s o (writeOutcome (offerRef o) .refused .tooLate
                  (outcomeDetail [(1, r.1), (1, (parcelOf s r).state.code), (2, (parcelOf s r).received)])
                  (beginEvent s))))
          ∧ (((parcelOf s r).state = .armed ∨ (parcelOf s r).state = .filling
                ∨ (parcelOf s r).state = .verifying) →
            ∀ u, u = (beginEvent s).withParcel r { parcelOf s r with
              state := .failed, reason := .cancelled, quiet := .stopped, write := none, verify := none } →
            exec (.cancelParcel o) s
              = .next (carried s o (writeOutcome (offerRef o) .done .none
                  (outcomeDetail [(1, r.1), (1, (parcelOf s r).state.code), (2, (parcelOf s r).received)])
                  (takeFrames (raise .parcel
                    (if (parcelOf s r).write.isSome then endHandling u else u)))))))

/-- R136, R137: Release parcel frees a COMPLETE or FAILED record, and is refused BUSY for any other; Report parcel
reads one record and changes nothing. -/
def Clause.ReleaseAndReportParcel : Prop :=
  ∀ (s : State) (o : Offer) (r : Fin 8),
    (offered s .link .releaseParcel o = true →
        ((∀ q, (parcelOf s q).state ≠ .free → (parcelOf s q).number ≠ opHalf o.ops 0) →
          exec (.releaseParcel o) s
            = .next (carried s o (writeOutcome (offerRef o) .refused .range 0 (beginEvent s))))
        ∧ ((parcelOf s r).state ≠ .free → (parcelOf s r).number = opHalf o.ops 0 →
          (∀ q, q ≠ r → (parcelOf s q).state ≠ .free → (parcelOf s q).number ≠ opHalf o.ops 0) →
          exec (.releaseParcel o) s
            = .next (carried s o
                (if (parcelOf s r).state = .complete ∨ (parcelOf s r).state = .failed then
                  writeOutcome (offerRef o) .done .none
                    (outcomeDetail [(1, r.1), (1, (parcelOf s r).state.code),
                      (1, (parcelOf s r).reason.code.toNat)])
                    ((beginEvent s).withLink { s.link with
                      parcels := s.link.parcels.set r.1 Parcel.free r.2 })
                else
                  writeOutcome (offerRef o) .refused .busy
                    (outcomeDetail [(1, r.1), (1, (parcelOf s r).state.code)]) (beginEvent s)))))
      ∧ (offered s .link .reportParcel o = true →
        (7 < (opByte o.ops 0).toNat →
          exec (.reportParcel o) s
            = .next (carried s o (writeOutcome (offerRef o) .refused .range 0 (beginEvent s))))
        ∧ ((opByte o.ops 0).toNat = r.1 →
          exec (.reportParcel o) s
            = .next (carried s o (writeOutcome (offerRef o) .done .none
                (outcomeDetail [(1, (parcelOf s r).state.code), (1, (parcelOf s r).reason.code.toNat),
                  (2, (parcelOf s r).received), (2, (parcelOf s r).count), (4, (parcelOf s r).total),
                  (2, (parcelOf s r).number.toNat), (1, (parcelOf s r).gaps),
                  (1, lowestMissing (parcelOf s r).map)]) (beginEvent s)))))

/-- R134 to R137: Arm, Cancel, Release and Report parcel. The detail of a Cancel parcel that names no record
follows log 42. -/
def Obligations.ParcelRequestsServed : Prop :=
  Clause.ArmParcelTakesRecord ∧ Clause.CancelParcelFailsRecord ∧ Clause.ReleaseAndReportParcel

/-- R141, R142: a block write completes: the rest of the block's bytes goes into the record's buffer, its flag is
set and counted, the gap count starts afresh and the quiet timer restarts; the buffer of the frame becomes FREE,
and with every block received the record enters VERIFYING. -/
def Clause.BlockWriteCompletes : Prop :=
  ∀ (s : State) (b : Fin 4) (r : Fin 8) (p : Parcel) (f : OpenFields) (n copied : Nat) (q : Quiet),
    writingRecord s = some r → parcelOf s r = p → p.state = .filling → p.fields = some f →
    p.write = some ⟨n, copied⟩ → s.link.handling = some b → s.link.fifo = [] →
    (framePayload s.link.buffers[b]).length ≤ 1034 →
    q = (if s.link.rail then .running (s.link.settings.quietTime * 1000)
      else .paused (s.link.settings.quietTime * 1000)) →
    exec .blockWriteComplete s
      = .next (concluded ((((beginEvent s).withMem
          (s.mem.writeBytes (p.buffer.toNat + n * f.blockSize + copied)
            ((framePayload s.link.buffers[b]).drop copied))).withLink
            { s.link with handling := none, buffers := s.link.buffers.set b.1 [] b.2 }).withParcel r
            (if f.received + 1 = f.count then
              { p with
                state := .verifying
                fields := some { f with map := f.map.set n true, received := f.received + 1, gaps := 0 }
                quiet := .stopped
                write := none
                verify := some ⟨0, 0xFFFFFFFF⟩ }
            else
              { p with
                fields := some { f with map := f.map.set n true, received := f.received + 1, gaps := 0 }
                quiet := q
                write := none })))

/-- R143: a record's quiet timer expires. Below the gap limit a GAP frame with the missing blocks is queued and the
timer starts again; at the limit the record fails STALLED, PARCEL is raised, and STALLED occurs, before the next HELD
frame is taken (log 43). -/
def Clause.QuietTimerExpires : Prop :=
  ∀ (s u : State) (r : Fin 8) (p : Parcel) (f : OpenFields) (left : Nat),
    parcelOf s r = p → p.quiet = .running left → p.fields = some f →
    u = (beginEvent s).withParcel r { p with
      state := .failed, reason := .stalled, quiet := .stopped, write := none, verify := none } →
    (f.gaps + 1 < s.link.settings.gapLimit →
        exec (.quietTimerExpiry r) s
          = .next (concluded (takeFrames
              ((queueOut (.record r) .gap p.number (gapPayload f.map) (beginEvent s)).withParcel r { p with
                fields := some { f with gaps := f.gaps + 1 }
                quiet := if s.link.rail then .running (s.link.settings.quietTime * 1000)
                  else .paused (s.link.settings.quietTime * 1000) }))))
      ∧ (s.link.settings.gapLimit ≤ f.gaps + 1 →
        exec (.quietTimerExpiry r) s
          = .next (concluded (takeFrames (occur .stalled
              (frameDetail [(1, r.1), (2, p.number.toNat), (2, f.received), (2, f.count), (2, f.gaps)])
              (raise .parcel (if p.write.isSome then endHandling u else u))))))

/-- R144, R145: a verify pass completes. The CRC-32 over the rest of the buffer is compared with the digest: equal,
the record is COMPLETE, a TAKEN frame is queued and PARCEL raised; not equal, it fails DIGEST with its fault. -/
def Clause.VerifyPassCompletes : Prop :=
  ∀ (s : State) (r : Fin 8) (p : Parcel) (f : OpenFields) (v : VerifyPass) (crc : Word),
    parcelOf s r = p → p.state = .verifying → p.fields = some f → p.verify = some v → p.write = none →
    crc = ~~~ crc32Over v.crc (s.mem.readBytes (p.buffer.toNat + v.done) (f.total - v.done)) →
    (crc = f.digest →
        exec (.verifyComplete r) s
          = .next (concluded (raise .parcel (queueOut (.record r) .taken p.number (leBytes 4 f.digest.toNat)
              ((beginEvent s).withParcel r { p with state := .complete, verify := none })))))
      ∧ (crc ≠ f.digest →
        exec (.verifyComplete r) s
          = .next (concluded (occur .digest
              (frameDetail [(1, r.1), (2, p.number.toNat), (4, crc.toNat), (4, f.digest.toNat)])
              (raise .parcel ((beginEvent s).withParcel r { p with
                state := .failed, reason := .digest, quiet := .stopped, write := none, verify := none })))))

/-- R143: the payload of a GAP frame: the maximal runs of clear flags, lowest first, of which it counts and lists
the first eight. -/
def Clause.GapListsMissingRuns : Prop :=
  ∀ m : List Bool, ∃ runs : List (Nat × Nat),
    (∀ p ∈ runs, 0 < p.2 ∧ (∀ i, p.1 ≤ i → i < p.1 + p.2 → m[i]? = some false)
        ∧ (p.1 = 0 ∨ m[p.1 - 1]? = some true) ∧ m[p.1 + p.2]? ≠ some false)
      ∧ (runs.Pairwise fun p q => p.1 < q.1)
      ∧ (∀ i, m[i]? = some false → ∃ p ∈ runs, p.1 ≤ i ∧ i < p.1 + p.2)
      ∧ gapPayload m
        = BitVec.ofNat 8 (min 8 runs.length) :: (runs.take 8).flatMap fun p => leBytes 2 p.1 ++ leBytes 2 p.2

/-- R141 to R145: the completion of a block write, the expiry of a quiet timer with its GAP frame, the completion
of a verify pass. That a stall comes before the next HELD frame is the model's choice (log 43). -/
def Obligations.ParcelsFillAndVerify : Prop :=
  Clause.BlockWriteCompletes ∧ Clause.QuietTimerExpires ∧ Clause.VerifyPassCompletes ∧ Clause.GapListsMissingRuns

/-! ## Battery, gauge and measurements -/

/-- R158, R159: Set charge. A charge above 1000 or a capacity of 0 is refused RANGE. Otherwise Qr is that share of
Qfull, the gauge is calibrated with the SOC given, BATTERY_LOW is re-evaluated, and the outcome is DONE. -/
def Clause.SetChargeSetsGauge : Prop :=
  ∀ (s : State) (o : Offer) (v : Nat) (g : Gauge), offered s .power .setCharge o = true →
    gaugeSound s = true → (opHalf o.ops 0).toNat = v → g = s.power.gauge →
    ((1000 < v ∨ s.power.settings.capacity = 0) →
        exec (.setCharge o) s
          = .next (carried s o (writeOutcome (offerRef o) .refused .range 0 (beginEvent s))))
      ∧ (v ≤ 1000 → s.power.settings.capacity ≠ 0 →
        ∀ low, low = (if s.power.batteryLow then decide (v < s.power.settings.lowThreshold + 20)
            else decide (v < s.power.settings.lowThreshold)) →
          ∀ u, u = (beginEvent s).withPower { s.power with
            gauge := { g with qr := g.qfull * v / 1000, clamp := .none, calibrated := true, soc := v }
            batteryLow := low } →
          exec (.setCharge o) s
            = .next (carried s o (writeOutcome (offerRef o) .done .none
                (outcomeDetail [(2, g.soc), (2, v), (1, if g.calibrated then 1 else 0), (1, 0),
                  (8, g.qfull * v / 1000)])
                (if low = s.power.batteryLow then u else raise .battery u))))

/-- R156: a measurement charges the gauge with its period. A result below 0 or above Qfull is clamped, and is an
occurrence of GAUGE_CLAMP when the clamp state changes. -/
def Clause.GaugeCharges : Prop :=
  ∀ (s : State) (period : Nat) (g : Gauge) (v : Int), g = s.power.gauge →
    v = (g.qr : Int) - s.power.ib * period →
    (g.qfull = 0 → chargeGauge period s = s)
      ∧ (g.qfull ≠ 0 → 0 ≤ v → v ≤ g.qfull →
          chargeGauge period s = s.withPower { s.power with
            gauge := { g with qr := v.toNat, clamp := .none } })
      ∧ (g.qfull ≠ 0 → v < 0 →
          (chargeGauge period s).power = { s.power with gauge := { g with qr := 0, clamp := .atEmpty } }
            ∧ (g.clamp = .atEmpty → (chargeGauge period s).faults = s.faults)
            ∧ (g.clamp ≠ .atEmpty →
                (faultOf (chargeGauge period s) .power).accrued = (faultOf s .power).accrued ||| 8))
      ∧ (g.qfull ≠ 0 → (g.qfull : Int) < v →
          (chargeGauge period s).power = { s.power with gauge := { g with qr := g.qfull, clamp := .atFull } }
            ∧ (g.clamp = .atFull → (chargeGauge period s).faults = s.faults)
            ∧ (g.clamp ≠ .atFull →
                (faultOf (chargeGauge period s) .power).accrued = (faultOf s .power).accrued ||| 8))

/-- R152, R156, R159: every measurement charges the gauge with its current for its period, 250 ms awake and 4000 ms in
SLEEP, and computes SOC; the calibrated flag stays. The empty correction is not met here, and Ib is within its
range. -/
def Clause.MeasurementChargesGauge : Prop :=
  ∀ (s : State) (vb ib tb tp : Int) (g : Gauge) (v : Int) (q : Nat),
    -4000 ≤ ib → ib ≤ 4000 → 0 ≤ vb → vb ≤ 5000 →
    ((s.power.settings.vempty : Int) ≤ vb ∨ ib ≤ -50 ∨ 50 ≤ ib) →
    g = s.power.gauge → g.qfull ≠ 0 → v = (g.qr : Int) - ib * (if s.asleep then 4000 else 250) →
    q = (min (max v 0) g.qfull).toNat →
    ∃ u, exec (.measurement vb ib tb tp) s = .next (concluded u)
      ∧ u.power.gauge = { g with
          qr := q
          clamp := if v < 0 then .atEmpty else if (g.qfull : Int) < v then .atFull else .none
          soc := q * 1000 / g.qfull }
      ∧ (s.asleep = true → (concluded u).power.gauge = u.power.gauge)

/-- R159: a measurement re-evaluates BATTERY_LOW on a calibrated gauge against the SOC that it computes, under the
conditions of the charging. -/
def Clause.MeasurementEvaluatesLow : Prop :=
  ∀ (s : State) (vb ib tb tp : Int), -4000 ≤ ib → ib ≤ 4000 → 0 ≤ vb → vb ≤ 5000 →
    ((s.power.settings.vempty : Int) ≤ vb ∨ ib ≤ -50 ∨ 50 ≤ ib) →
    ∃ u, exec (.measurement vb ib tb tp) s = .next (concluded u)
      ∧ (s.power.gauge.calibrated = false → u.power.batteryLow = s.power.batteryLow)
      ∧ (s.power.gauge.calibrated = true →
        u.power.batteryLow
            = (if s.power.batteryLow then decide (u.power.gauge.soc < s.power.settings.lowThreshold + 20)
              else decide (u.power.gauge.soc < s.power.settings.lowThreshold))
          ∧ (u.power.batteryLow ≠ s.power.batteryLow → u.notices.getLsbD 9 = true))

/-- R152, R156, R158, R159: Set charge, and the charging of the gauge at a measurement. -/
def Obligations.GaugeSetAndCharged : Prop :=
  Clause.SetChargeSetsGauge ∧ Clause.GaugeCharges ∧ Clause.MeasurementChargesGauge ∧ Clause.MeasurementEvaluatesLow

/-- R152, R153, R160, R162, R163: a measurement while the part is awake and Vb is not below Vcut. The readings are
recorded, the budget computed from them, the shortfall flag and the light grant follow, and the next measurement
comes after 250 ms. -/
def Clause.MeasurementReadingsAndBudget : Prop :=
  ∀ (s : State) (vb ib tb tp : Int) (vopen : Int) (h lim : Nat) (hot : Bool),
    s.asleep = false → 0 ≤ vb → vb ≤ 5000 → -4000 ≤ ib → ib ≤ 4000 → -40 ≤ tb → tb ≤ 85 → -40 ≤ tp → tp ≤ 85 →
    (s.power.settings.vcut : Int) ≤ vb →
    vopen = vb + ib * s.power.settings.resistance / 1000 →
    h = (if vopen ≤ s.power.settings.vfloor then 0
      else ((vopen - s.power.settings.vfloor) * 1000 / s.power.settings.resistance).toNat) →
    hot = (if (s.power.settings.hotLimit : Int) ≤ tb then true
      else if tb ≤ (s.power.settings.hotLimit : Int) - 3 then false else s.power.hot) →
    lim = (if hot then s.power.settings.imax / 2 else s.power.settings.imax) →
    ∃ u, exec (.measurement vb ib tb tp) s = .next (concluded u)
      ∧ u.power.vb = vb ∧ u.power.ib = ib ∧ u.power.batteryTemp = tb ∧ u.power.panelTemp = tp
      ∧ u.panel.lastTemp = tp ∧ u.power.vopen = vopen ∧ u.power.h = h ∧ u.power.hot = hot
      ∧ u.power.imaxEff = lim ∧ u.power.budget = min h lim - s.power.settings.reserve
      ∧ u.light.g = u.power.budget - committed u
      ∧ u.power.shortfall = decide (min h lim - s.power.settings.reserve < committed s)
      ∧ u.power.measurements = s.power.measurements + 1 ∧ u.power.nextMeasure = 250
      ∧ u.power.settings = s.power.settings ∧ u.power.inputs = s.power.inputs ∧ u.link = s.link
      ∧ (s.power.state ≠ .sleepPending → u.power.state = s.power.state)

/-- R152: a reading outside its range is taken as the nearer end of the range. -/
def Clause.ReadingsBroughtIntoRange : Prop :=
  ∀ (s : State) (vb ib tb tp : Int),
    exec (.measurement vb ib tb tp) s
        = exec (.measurement (max 0 (min vb 5000)) (max (-4000) (min ib 4000)) (max (-40) (min tb 85))
            (max (-40) (min tp 85))) s
      ∧ ∃ u, exec (.measurement vb ib tb tp) s = .next (concluded u)
        ∧ u.power.vb = max 0 (min vb 5000) ∧ u.power.ib = max (-4000) (min ib 4000)
        ∧ u.power.batteryTemp = max (-40) (min tb 85) ∧ u.power.panelTemp = max (-40) (min tp 85)

/-- R50, R51: the arrival of the panel temperature `x`. While the set is not VALID it is recorded alone. Else the
range state follows it, the band is the edge band out of range, and in range it moves when `x` lies a degree or
more beyond the band; a change to an out of range state, or between the two, is an occurrence of TEMP_RANGE (the size
of the bound in its detail: log 51). -/
def Clause.TemperatureMovesBand : Prop :=
  ∀ (s v : State) (x : Int) (c n : Nat) (range : RangeState) (band : Nat),
    (s.panel.setState ≠ .valid → temperatureArrival x s = s.withPanel { s.panel with lastTemp := x })
      ∧ (s.panel.setState = .valid → s.panel.band = some c → n = waveBands s.mem →
        range = (if x < waveBound s.mem 0 - 1 then .outLow
          else if waveBound s.mem n + 1 ≤ x then .outHigh else .inRange) →
        band = (if range = .outLow then 0 else if range = .outHigh then n - 1
          else if waveBound s.mem (c + 1) + 1 ≤ x ∨ x < waveBound s.mem c - 1 then bandContaining s.mem x else c) →
        v = s.withPanel { s.panel with lastTemp := x, range := range, band := some band } →
        temperatureArrival x s
          = if range ≠ s.panel.range ∧ range ≠ .inRange then
              occur .tempRange (frameDetail [signedItem 2 x,
                signedItem 2 (if range = .outHigh then waveBound s.mem n else waveBound s.mem 0)]) v
            else v)

/-- R50: the band that contains a temperature, where the bounds of the bands rise. -/
def Clause.BandContainsTemperature : Prop :=
  ∀ (m : Memory) (x : Int) (n : Nat), n = waveBands m → 1 ≤ n →
    (∀ i, i < n → waveBound m i < waveBound m (i + 1)) →
    (x < waveBound m 0 → bandContaining m x = 0)
      ∧ (waveBound m n ≤ x → bandContaining m x = n - 1)
      ∧ (∀ b, b < n → waveBound m b ≤ x → x < waveBound m (b + 1) → bandContaining m x = b)

/-- R50, R153: a measurement of a part that is awake and not below Vcut gives the panel its temperature arrival. -/
def Clause.MeasurementBringsTemperature : Prop :=
  ∀ (s : State) (vb ib tb tp : Int),
    s.asleep = false → (s.power.settings.vcut : Int) ≤ max 0 (min vb 5000) → -40 ≤ tp → tp ≤ 85 →
    ∃ u, exec (.measurement vb ib tb tp) s = .next (concluded u) ∧ u.panel.lastTemp = tp
      ∧ u.panel.range = (temperatureArrival tp s).panel.range
      ∧ u.panel.band = (temperatureArrival tp s).panel.band

/-- R160: a measurement of a part that is awake and not below Vcut that sets the hot state is an occurrence of
BATTERY_HOT. Enabled, with BUDGET_SHORT masked, it is posted where nothing was, with the battery temperature, the hot
limit and Imax_eff in its frame; that the hot limit takes two bytes there is log 51. -/
def Clause.HotStateOccurs : Prop :=
  ∀ (s : State) (vb ib tb tp : Int),
    s.asleep = false → (s.power.settings.vcut : Int) ≤ max 0 (min vb 5000) → s.power.hot = false →
    (s.power.settings.hotLimit : Int) ≤ max (-40) (min tb 85) →
    ∃ u, exec (.measurement vb ib tb tp) s = .next (concluded u) ∧ u.power.hot = true
      ∧ u.power.imaxEff = s.power.settings.imax / 2 ∧ (faultOf u .power).accrued.getLsbD 2 = true
      ∧ (s.power.settings.batteryHot = true → s.power.settings.budgetShort = false →
          (faultOf s .power).posted = none →
          (faultOf u .power).posted = some .batteryHot ∧ (faultOf u .power).frame.origin = none
            ∧ (faultOf u .power).frame.detail
              = frameDetail [signedItem 2 (max (-40) (min tb 85)), (2, s.power.settings.hotLimit),
                  (2, s.power.settings.imax / 2)]
            ∧ u.notices.getLsbD 4 = true)

/-- R157, R159: a measurement below Vempty with less than 50 mA either way empties the gauge, calibrates it, and has
BATTERY_LOW follow the state of charge 0. -/
def Clause.EmptyCorrectionAtMeasurement : Prop :=
  ∀ (s : State) (vb ib tb tp : Int), s.asleep = false → (s.power.settings.vcut : Int) ≤ vb → 0 ≤ vb → vb ≤ 5000 →
    vb < s.power.settings.vempty → -50 < ib → ib < 50 → s.power.gauge.qfull ≠ 0 →
    ∃ u, exec (.measurement vb ib tb tp) s = .next (concluded u)
      ∧ u.power.gauge = { s.power.gauge with qr := 0, clamp := .none, calibrated := true, soc := 0 }
      ∧ u.power.batteryLow = (if s.power.batteryLow then decide (0 < s.power.settings.lowThreshold + 20)
          else decide (0 < s.power.settings.lowThreshold))

/-- R50, R51, R152, R153, R157, R159, R160, R162, R163: what a measurement does with its readings: their ranges, the
budget, the hot state, the temperature arrival (log 51 for their details) and the empty correction. -/
def Obligations.MeasurementComputesBudget : Prop :=
  Clause.MeasurementReadingsAndBudget ∧ Clause.ReadingsBroughtIntoRange ∧ Clause.TemperatureMovesBand
    ∧ Clause.BandContainsTemperature ∧ Clause.MeasurementBringsTemperature ∧ Clause.EmptyCorrectionAtMeasurement
    ∧ Clause.HotStateOccurs

/-- R73, R111, R119, R148, R164, R177: a measurement that finds Vb below Vcut while the part is awake. Every lane is
FREE and the queue empty, the light is dark with both duties 0, the rail is OFF, BROWNOUT is posted and FAULT
raised, and the part is in SLEEP with the mark set. -/
def Clause.BrownoutEntersSleep : Prop :=
  ∀ (s : State) (vb ib tb tp : Int),
    s.asleep = false → 0 ≤ vb → vb < s.power.settings.vcut → vb ≤ 5000 →
    (s.link.rail = true ∨ (s.power.radioClaim = 0 ∧ s.link.fifo = [])) →
    ∃ t, exec (.measurement vb ib tb tp) s = .next t
      ∧ t.power.state = .sleep ∧ t.power.mark = true ∧ t.power.shortfall = false ∧ t.power.radioClaim = 0
      ∧ t.power.nextMeasure = 4000 ∧ t.power.sleep.record = some ⟨.none, 0, .settle, 0b00101, 0⟩
      ∧ t.power.sleep.wakeTimer = none
      ∧ t.panel.queue = [] ∧ t.panel.lanes = Vector.replicate 16 Lane.free ∧ t.panel.frameClock = none
      ∧ t.panel.setState.isLoading = false ∧ turnWaits t = false
      ∧ t.light.dark = true ∧ t.light.pw = 0 ∧ t.light.pc = 0 ∧ t.light.lw = 0 ∧ t.light.lc = 0
      ∧ t.light.ramp = none ∧ t.light.sampleClock = none
      ∧ t.link.rail = false ∧ (∀ r, (parcelOf t r).state ≠ .filling ∧ (parcelOf t r).state ≠ .verifying)
      ∧ (faultOf t .power).posted = some .brownout ∧ (faultOf t .power).frame.origin = none
      ∧ t.notices.getLsbD 4 = true ∧ t.held.isSome = true

/-- R152, R165: a measurement in SLEEP sets the brownout mark below Vcut and clears it at Vcut + 200 or above; the
part stays in SLEEP, and the next measurement comes after 4000 ms. -/
def Clause.SleepMeasurementActsOnMark : Prop :=
  ∀ (s : State) (vb ib tb tp : Int), s.asleep = true → 0 ≤ vb → vb ≤ 5000 → s.panel.queue = [] →
    ∃ t, exec (.measurement vb ib tb tp) s = .next t
      ∧ t.power.state = .sleep ∧ t.power.nextMeasure = 4000 ∧ t.power.vb = vb
      ∧ t.power.mark = (if s.power.mark then decide (vb < s.power.settings.vcut + 200)
          else decide (vb < s.power.settings.vcut))
      ∧ (s.power.mark = false → vb < s.power.settings.vcut →
          (faultOf t .power).posted = some .brownout ∧ t.power.sleep.wakeTimer = none
            ∧ t.notices.getLsbD 4 = true)
      ∧ t.link = s.link ∧ t.readers = s.readers

/-- R12, R13, R162, R164: after a brownout the light grant is the whole budget, and no reader holds with QUEUE_ROOM,
each of them having been given a place. Where the halt finds nothing to stop, page memory stays as it is, and the
readers but for those holds. BROWNOUT's frame holds Vb, Ib, Vcut and the power state before. -/
def Clause.BrownoutGivesGrantAndPlaces : Prop :=
  ∀ (s t : State) (vb ib tb tp : Int),
    s.asleep = false → 0 ≤ vb → vb < s.power.settings.vcut → vb ≤ 5000 → -4000 ≤ ib → ib ≤ 4000 →
    (s.link.rail = true ∨ (s.power.radioClaim = 0 ∧ s.link.fifo = [])) →
    exec (.measurement vb ib tb tp) s = .next t →
    t.light.g = t.power.budget
      ∧ (∀ k : Fin 4, (readerOf t k).state = .handing → (readerOf t k).hold ≠ .queueRoom)
      ∧ (faultOf t .power).frame.detail
        = frameDetail [signedItem 2 vb, signedItem 2 ib, (2, s.power.settings.vcut), (1, s.power.state.code)]
      ∧ (noLoadOrHeldTurn s = true → allLanesFree s.panel = true → s.panel.queue = [] →
          s.power.state ≠ .sleepPending →
          t.mem = s.mem ∧ ∀ k, readerOf t k = { readerOf s k with
            hold := if (readerOf s k).state = .handing ∧ (readerOf s k).hold = .queueRoom then .none
              else (readerOf s k).hold })

/-- R42, R72, R73, R90, R164: the outcomes that a brownout writes, where one piece of work that reports to a request is
under way: the update of a lane, an entry of the queue (also where the measurement ends the range refusal: log 49), a
waveform load, a sleep entry, and a held turn, which waits while the queue is full of entries that report to none, read
FAILED HALTED, and the chain unit's record follows. The zero details of a load and of a Sleep, the detail of a held
turn, the flag bits, the marked count and the frames driven of the update detail are the model's choices (logs 44, 21,
18 and 47). So is it that a BARRIER or LIST_ROOM hold whose end such an outcome brings stands through the SLEEP
(log 34): R11 and R14 end such a hold in the event. -/
def Clause.BrownoutFailsStoppedWork : Prop :=
  ∀ (s t : State) (vb ib tb tp : Int) (o : ReqRef),
    s.asleep = false → 0 ≤ vb → vb < s.power.settings.vcut → vb ≤ 5000 →
    (s.link.rail = true ∨ (s.power.radioClaim = 0 ∧ s.link.fifo = [])) →
    exec (.measurement vb ib tb tp) s = .next t →
    (∀ (n : Fin 16) (l : Lane) (origin : EntryOrigin), noLoadOrHeldTurn s = true →
        s.power.state ≠ .sleepPending → s.panel.queue = [] → laneOf s n = l → l.isFree = false →
        (∀ m, m ≠ n → (laneOf s m).isFree = true) → l.origin = some origin → origin.isSleep = false →
        origin.report = some o →
        haltedInBrownout s t o (outcomeDetail [(1, n.1), (1, l.mode.code), (1, l.band), (1, l.frameIndex),
          (4, l.marked), (2, l.rect.w), (2, l.rect.h),
          (1, bitsNat [l.promoted, l.clipped, decide ((l.state = .driving ∨ l.state = .closing)
            ∧ (s.panel.wholePanel = true ∨ s.panel.uncertain.length < 16))])])
          ∧ ((l.state = .driving ∨ l.state = .closing) → s.panel.wholePanel = false →
            (s.panel.uncertain.length < 16 →
                t.panel.uncertain = s.panel.uncertain ++ [l.rect] ∧ t.panel.wholePanel = false)
              ∧ (16 ≤ s.panel.uncertain.length → t.panel.uncertain = [] ∧ t.panel.wholePanel = true)))
      ∧ (∀ e, noLoadOrHeldTurn s = true → s.power.state ≠ .sleepPending → allLanesFree s.panel = true →
          s.panel.queue = [e] → e.origin.isSleep = false → e.origin.report = some o →
          haltedInBrownout s t o (outcomeDetail [(1, 255), (1, e.mode.code), (1, 0), (1, 0), (4, 0), (2, e.rect.w),
            (2, e.rect.h), (1, bitsNat [e.promoted, e.clipped, false])]))
      ∧ (∀ job, s.panel.setState = .loading job → job.rep = o → turnWaits s = false →
          s.power.state ≠ .sleepPending → allLanesFree s.panel = true → s.panel.queue = [] →
          haltedInBrownout s t o 0)
      ∧ (noLoadOrHeldTurn s = true → allLanesFree s.panel = true → s.panel.queue = [] →
          s.power.state = .sleepPending → sleepRef s = some o → haltedInBrownout s t o 0)
      ∧ (∀ d f former, s.panel.ring.held = some (.queueFull d f former (some o)) →
          s.panel.setState.isLoading = false → s.power.state ≠ .sleepPending → allLanesFree s.panel = true →
          (∀ e ∈ s.panel.queue, e.origin.report = none) →
          haltedInBrownout s t o (outcomeDetail [(1, 255),
            (1, (s.panel.ring.slots[s.panel.ring.current]).mode.code), (1, 0), (1, 0), (4, 0),
            (2, s.panel.settings.width), (2, s.panel.settings.height), (1, 0)]))

/-- R12, R13, R42, R72, R73, R90, R111, R119, R148, R152, R162, R164, R165, R177: a measurement below Vcut, with the
outcomes that it writes (logs 18, 21, 44, 47 and 49) and the BARRIER and LIST_ROOM holds that it leaves (log 34), and the
measurements in SLEEP. -/
def Obligations.BrownoutStopsThePart : Prop :=
  Clause.BrownoutEntersSleep ∧ Clause.BrownoutGivesGrantAndPlaces ∧ Clause.BrownoutFailsStoppedWork
    ∧ Clause.SleepMeasurementActsOnMark

/-! ## Power states and inputs -/

/-- R167, R168, R170, R174, R175: of the hand-overs, Doze, Sleep and Cancel sleep alone change the power state, apart from
one that has the sleep image entry fail; each changes it as the table of R167 says. -/
def Clause.HandOverMovesPowerState : Prop :=
  ∀ (x : Slot) (o : ReqRef) (s u : State), handOver x o s = some u →
    u.power.state = s.power.state
      ∨ (x.engine = 4 ∧ x.code = 0x03 ∧ s.power.state = .run ∧ u.power.state = .doze)
      ∨ (x.engine = 4 ∧ x.code = 0x04 ∧ (s.power.state = .run ∨ s.power.state = .doze)
          ∧ u.power.state = .sleepPending ∧ u.power.returnState = s.power.state)
      ∨ (s.power.state = .sleepPending ∧ u.power.state = s.power.returnState ∧ u.power.sleep.step = none
          ∧ ((x.engine = 4 ∧ x.code = 0x05) ∨ (imageUnderWay s = true ∧ imageUnderWay u = false)))

/-- R164, R167, R169, R177, R178: which commands can take the part from one power state to another. SLEEP ends at a wake
event or a reset alone; DOZE returns to RUN at a NOTICE read or a reset, the accesses held through one among them; SLEEP
with the mark set is entered by a measurement below Vcut alone; a sleep entry from DOZE never ends in RUN without a
reset; and an idle step changes no power state. -/
def Clause.CommandsMovePowerState : Prop :=
  (∀ (c : Instr) (s t : State), exec c s = .next t →
    (s.asleep = true → t.asleep = false → canWake c = true ∨ resets c = true)
      ∧ (s.power.state = .doze → t.power.state = .run → c = .noticeRead ∨ resets c = true ∨ c = .resetComplete)
      ∧ (s.asleep = false → s.power.mark = false → t.asleep = true → t.power.mark = true →
          ∃ vb ib tb tp, c = .measurement vb ib tb tp ∧ max 0 (min vb 5000) < (s.power.settings.vcut : Int))
      ∧ (s.power.state = .sleepPending → s.power.returnState = .doze → t.power.state = .run →
          resets c = true ∨ c = .resetComplete))
    ∧ ∀ s t : State, s.pending = [] → step s = .next t → t.power.state = s.power.state

/-- R167: the power state changes only at the events of its table: in one hand-over, in one internal step of an event,
and over a command. -/
def Obligations.PowerStateFollowsTable : Prop :=
  Clause.HandOverMovesPowerState ∧ (∀ s u : State, settleStep s = some u → powerMove s u)
    ∧ Clause.CommandsMovePowerState

/-- R168, R169: Doze takes the part from RUN to DOZE, and is DONE with the state it found; during sleep entry it is
refused BUSY. The end of a wake pulse makes the wake line inactive. -/
def Clause.DozeEntersDoze : Prop :=
  ∀ (s : State) (o : Offer),
    (offered s .power .doze o = true →
        (s.power.state = .run →
          exec (.doze o) s
            = .next (carried s o (writeOutcome (offerRef o) .done .none (outcomeDetail [(1, 0)])
                ((beginEvent s).withPower { s.power with state := .doze }))))
        ∧ (s.power.state = .doze →
          exec (.doze o) s
            = .next (carried s o (writeOutcome (offerRef o) .done .none (outcomeDetail [(1, 1)])
                (beginEvent s))))
        ∧ (s.power.state = .sleepPending →
          exec (.doze o) s
            = .next (carried s o (writeOutcome (offerRef o) .refused .busy 0 (beginEvent s)))))
      ∧ exec .wakePulseEnd s = .next (concluded ((beginEvent s).withWakePulse none))

/-- R170, R171: Sleep. During sleep entry it is refused BUSY; a mode above 3, or a TIMER flag that does not go with
the wake timer, is refused RANGE; an image outside the host area PROTECTED. Otherwise sleep entry begins at
DRAINING with the download hold timer, and the outcome is QUEUED. That the image flag is NONE until it is decided is the
model's choice (log 53). -/
def Clause.SleepBeginsSleepEntry : Prop :=
  ∀ (s u : State) (o : Offer), offered s .power .sleep o = true →
    (s.power.state = .sleepPending →
        exec (.sleep o) s
          = .next (carried s o (writeOutcome (offerRef o) .refused .busy 0 (beginEvent s))))
      ∧ (s.power.state ≠ .sleepPending →
        (3 < (opByte o.ops 4).toNat ∨ (opByte o.ops 5).getLsbD 4 ≠ (opHalf o.ops 6 != 0)) →
        exec (.sleep o) s
          = .next (carried s o (writeOutcome (offerRef o) .refused .range 0 (beginEvent s))))
      ∧ (∀ m, s.power.state ≠ .sleepPending → modeOf (opByte o.ops 4).toNat = some m →
          (opByte o.ops 5).getLsbD 4 = (opHalf o.ops 6 != 0) →
          (opWord o.ops 0 ≠ 0 →
            inHostArea (opWord o.ops 0).toNat (s.panel.settings.height * (s.panel.settings.width / 2)) = false →
            exec (.sleep o) s
              = .next (carried s o (writeOutcome (offerRef o) .refused .protectedArea 0 (beginEvent s))))
          ∧ ((opWord o.ops 0 = 0 ∨
              inHostArea (opWord o.ops 0).toNat (s.panel.settings.height * (s.panel.settings.width / 2)) = true) →
            u = (writeOutcome (offerRef o) .queued .none 0 (beginEvent s)).withPower { s.power with
              state := .sleepPending
              returnState := s.power.state
              sleep := { s.power.sleep with
                record := some ⟨.request (offerRef o), opWord o.ops 0, m, (opByte o.ops 5).setWidth 5,
                  (opHalf o.ops 6).toNat⟩
                step := some .draining
                hold := .running (s.power.settings.downloadHold * 1000)
                image := .absent
                imageFlag := .none
                imageLane := none
                imageMode := m
                started := false
                slept := 0 } } →
            exec (.sleep o) s
              = .next (carried s o (if s.power.settings.downloadHold = 0 then expireHold u else u))))

/-- R148, R171: the download hold timer expires: every FILLING record fails SLEPT and PARCEL is raised, and the
records failed are counted. -/
def Clause.DownloadHoldFailsDownloads : Prop :=
  ∀ (s : State) (left : Nat), s.power.state = .sleepPending → s.power.sleep.step = some .draining →
    s.power.sleep.hold = .running left → s.link.fifo = [] →
    ∃ u, exec .downloadHoldExpiry s = .next (concluded u)
      ∧ u.power.sleep.hold = .expired
      ∧ u.power.sleep.slept = s.power.sleep.slept + countIn [.filling] s
      ∧ (∀ r, parcelOf u r = if (parcelOf s r).state = .filling then
          { parcelOf s r with state := .failed, reason := .slept, quiet := .stopped, write := none, verify := none }
          else parcelOf s r)
      ∧ (countIn [.filling] s ≠ 0 → u.notices.getLsbD 6 = true)
      ∧ (countIn [.filling] s = 0 → u.notices = s.notices)
      ∧ u.mem = s.mem ∧ u.panel = s.panel ∧ u.light = s.light ∧ u.readers = s.readers ∧ u.faults = s.faults

/-- R148, R168 to R171: Doze, Sleep, and the download hold timer. The image flag NONE at the begin of sleep entry is
the model's choice (log 53). -/
def Obligations.DozeAndSleepBegin : Prop :=
  Clause.DozeEntersDoze ∧ Clause.SleepBeginsSleepEntry ∧ Clause.DownloadHoldFailsDownloads

/-- R171, R172: DRAINING ends when the lanes are FREE, the queue is empty, no download or load goes on. IMAGING
begins: with no image it is over at once; with a set ABSENT the image is skipped; else the sleep image joins the
queue. -/
def Clause.DrainingEndsInImaging : Prop :=
  ∀ (s : State) (rec : SleepRec), s.power.state = .sleepPending → s.power.sleep.step = some .draining →
    drainingRests s = true → s.power.sleep.record = some rec →
    (rec.image = 0 →
        exec .drainingEnd s
          = .next (concluded ((beginEvent s).withSleep { s.power.sleep with
              step := some .imaging, hold := .stopped, image := .over, imageFlag := .none })))
      ∧ (rec.image ≠ 0 →
          (s.panel.setState = .absent
            ∨ inHostArea rec.image.toNat (s.panel.settings.height * (s.panel.settings.width / 2)) = false) →
          exec .drainingEnd s
            = .next (concluded ((beginEvent s).withSleep { s.power.sleep with
                step := some .imaging, hold := .stopped, image := .over, imageFlag := .skipped })))
      ∧ (rec.image ≠ 0 → s.panel.setState ≠ .absent →
          inHostArea rec.image.toNat (s.panel.settings.height * (s.panel.settings.width / 2)) = true →
          exec .drainingEnd s
            = .next (concluded (scan (((beginEvent s).withSleep { s.power.sleep with
                step := some .imaging, hold := .stopped, image := .queued }).withPanel { s.panel with
                  queue := s.panel.queue ++
                    [⟨.sleep (sleepRef s), fullPanel s.panel.settings, rec.image, s.panel.settings.width / 2,
                      rec.mode, false, false, .none, none, false⟩] }))))

/-- R171 to R173: what each step of sleep entry waits for. DRAINING rests when every lane is FREE, the queue is empty, no
record is VERIFYING, none is FILLING or the download hold has expired, and no load is in progress. While its condition
does not hold, a step goes on; once it holds, the next one follows in the same event, after the readers. -/
def Clause.SleepStepsWait : Prop :=
  ∀ s : State,
    (drainingRests s = true
        ↔ (∀ n, (laneOf s n).state = .free) ∧ s.panel.queue = [] ∧ (∀ r, (parcelOf s r).state ≠ .verifying)
          ∧ ((∀ r, (parcelOf s r).state ≠ .filling) ∨ s.power.sleep.hold = .expired)
          ∧ ∀ job, s.panel.setState ≠ .loading job)
      ∧ (s.power.state = .sleepPending →
        (s.power.sleep.step = some .draining →
            (drainingRests s = false →
                sleepStep s = none ∧ exec .drainingEnd s = .next (concluded (beginEvent s)))
              ∧ (drainingRests s = true → sleepStep s = some (startImaging s)))
          ∧ (s.power.sleep.step = some .imaging →
            (s.power.sleep.image ≠ .over →
                sleepStep s = none ∧ exec .imagingEnd s = .next (concluded (beginEvent s)))
              ∧ (s.power.sleep.image = .over → sleepStep s = some (startDarkening s)))
          ∧ (s.power.sleep.step = some .darkening →
            ((s.light.pw ≠ 0 ∨ s.light.pc ≠ 0) →
                sleepStep s = none ∧ exec .darkeningEnd s = .next (concluded (beginEvent s)))
              ∧ (s.light.pw = 0 → s.light.pc = 0 → sleepStep s = some (endDarkening s))))
      ∧ (s.asleep = false → s.reports = [] → chainStep s = none → settleStep s = sleepStep s)

/-- R111, R119, R148, R172, R173: IMAGING ends and DARKENING begins: the rail goes OFF, the dark hold begins with
the limited duties 0, and the downloads still going on fail SLEPT. Then, with both present duties 0, the part
enters SLEEP: the Sleep is DONE, the wake timer starts, and the light's clocks stop. That nothing is handed over in that
event, also where the DONE ends a BARRIER or LIST_ROOM hold, is the model's choice (log 34). -/
def Clause.DarkeningEndsInSleep : Prop :=
  ∀ s : State, s.power.state = .sleepPending →
    (s.power.sleep.step = some .imaging → s.power.sleep.image = .over → s.link.fifo = [] →
        ∃ u, exec .imagingEnd s = .next (concluded u)
          ∧ u.power.sleep.step = some .darkening ∧ u.power.state = .sleepPending
          ∧ u.light.dark = true ∧ u.light.lw = 0 ∧ u.light.lc = 0 ∧ u.link.rail = false
          ∧ (s.link.rail = true → u.power.radioClaim = 0)
          ∧ (∀ r, (parcelOf u r).state ≠ .filling ∧ (parcelOf u r).state ≠ .verifying)
          ∧ u.power.sleep.started = true)
      ∧ (∀ rec, s.power.sleep.step = some .darkening → s.light.pw = 0 → s.light.pc = 0 →
          s.power.sleep.record = some rec →
          ∃ t, exec .darkeningEnd s = .next t
            ∧ t.power.state = .sleep ∧ t.power.nextMeasure = 4000 ∧ t.power.sleep.step = none
            ∧ t.power.sleep.record = some rec
            ∧ t.power.sleep.wakeTimer = (if rec.wakeSet.getLsbD 4 then some (rec.timer * 1000) else none)
            ∧ t.light.ramp = none ∧ t.light.sample = none ∧ t.light.sampleClock = none
            ∧ t.light.pw = 0 ∧ t.light.pc = 0 ∧ t.held.isSome = true
            ∧ t.mem = (reportTo (sleepRef s) .done .none
                (outcomeDetail [(1, s.power.sleep.imageFlag.code),
                  (1, (s.power.sleep.imageLane.map Fin.val).getD 255), (1, s.power.sleep.imageMode.code),
                  (1, s.power.sleep.slept), (1, s.power.returnState.code)]) s).mem
            ∧ t.panel = s.panel ∧ t.link = s.link)

/-- R174: Cancel sleep aborts sleep entry: the Sleep fails ABORTED with the step and the cause CANCEL, the part is
back in the state that it came from, and an image entry goes on as one that reports to no request. That the return
state is kept after sleep entry has ended is the model's choice (log 37). -/
def Clause.CancelSleepAbortsSleepEntry : Prop :=
  ∀ (s : State) (o : Offer), offered s .power .cancelSleep o = true →
    (s.power.state ≠ .sleepPending →
        exec (.cancelSleep o) s
          = .next (carried s o (writeOutcome (offerRef o) .refused .tooLate 0 (beginEvent s))))
      ∧ (s.power.state = .sleepPending →
          ∃ u, exec (.cancelSleep o) s
              = .next (carried s o (writeOutcome (offerRef o) .done .none
                  (outcomeDetail [(1, stepCode s.power.sleep.step)]) u))
            ∧ u.power = { s.power with
                state := s.power.returnState
                sleep := { s.power.sleep with record := none, step := none, hold := .stopped, image := .absent } }
            ∧ u.mem = (reportTo (sleepRef s) .failed .aborted
                (outcomeDetail [(1, stepCode s.power.sleep.step), (1, 2)]) s).mem
            ∧ u.panel.queue = s.panel.queue.map orphanEntry
            ∧ (∀ n, laneOf u n = orphanLane (laneOf s n))
            ∧ (s.power.sleep.step = some .darkening → u.light.dark = false
                ∧ limitingEvaluated s u ({ s.light with dark := false } : Light).limit)
            ∧ (s.power.sleep.step ≠ some .darkening → u.light = s.light ∧ u.faults = s.faults)
            ∧ u.link = s.link)

/-- R102, R109, R111: the end of a dark hold, in an abort of DARKENING and in a wake: the limited duties are recomputed
from the targets and G, and the limiting episode is evaluated there, before a reader goes on (log 11). -/
def Clause.DarkHoldEndEvaluatesLimiting : Prop :=
  ∀ (s : State) (l : Light),
    l = { s.light with
      dark := false
      lw := if s.light.il ≤ s.light.g then s.light.dw else if s.light.g = 0 then 0
        else s.light.dw * s.light.g / s.light.il
      lc := if s.light.il ≤ s.light.g then s.light.dc else if s.light.g = 0 then 0
        else s.light.dc * s.light.g / s.light.il } →
    (∀ c, s.power.sleep.step = some .darkening →
        (abortSleep c s).light = { l with limiting := decide (l.lw < l.dw ∨ l.lc < l.dc) }
          ∧ limitingEvaluated s (abortSleep c s) l)
      ∧ ∀ cause notice,
        (wake cause notice s).light
            = { l with sampleClock := some 500, limiting := decide (l.lw < l.dw ∨ l.lc < l.dc) }
          ∧ limitingEvaluated s (wake cause notice s) l

/-- R181: the image flag of the sleep status record is that of the entry in progress, and the end of DARKENING makes
it that of the entry last completed; an abort leaves that one as it was (log 53). -/
def Clause.CompletedEntryKeepsImageFlag : Prop :=
  ∀ s : State, s.power.state = .sleepPending →
    (s.power.sleep.step = some .darkening → s.light.pw = 0 → s.light.pc = 0 →
        ∃ t, exec .darkeningEnd s = .next t ∧ shownFlag s.power = s.power.sleep.imageFlag
          ∧ t.power.sleep.doneFlag = s.power.sleep.imageFlag ∧ shownFlag t.power = s.power.sleep.imageFlag)
      ∧ (∀ c, s.power.returnState ≠ .sleepPending →
          shownFlag (abortSleep c s).power = s.power.sleep.doneFlag)

/-- R64, R67, R71, R172: the sleep image. Its entry takes a lane like any other and the lane is noted; at the end of
LOADING the Sleep reads STARTED with the lane number; at the close completion IMAGING has nothing left to wait for,
and the image flag says DRAWN. The queue holds no other entry here. -/
def Clause.SleepImageDrawn : Prop :=
  ∀ (s : State) (n : Fin 16) (l : Lane) (rep : Option ReqRef),
    (∀ (pos : Fin 32) (e : Entry) (band : Nat), s.panel.queue[pos.1]? = some e → e.hold = .none →
        e.origin = .sleep rep → s.power.sleep.image = .queued → s.panel.setState = .valid →
        tempRefusal s.panel = false → s.panel.band = some band →
        (∀ i, (laneOf s i).isFree = false → e.rect.meets (laneOf s i).rect = false) →
        (∀ d ∈ s.panel.queue.take pos.1, e.rect.meets d.rect = false) →
        (laneOf s n).isFree = true → (∀ i, i < n → (laneOf s i).isFree = false) →
        (e.mode = .settle ∨ isUncertain s.panel e.rect = false) →
        committed s + waveBurst s.mem e.mode.code ≤ s.power.budget →
        ∃ u, exec (.entryStart pos) s = .next (concluded u)
          ∧ u.power = { s.power with sleep := { s.power.sleep with
              image := .inLane n, imageLane := some n, imageMode := e.mode } }
          ∧ u.panel.queue = s.panel.queue.eraseIdx pos.1 ∧ (laneOf u n).state = .loading
          ∧ (laneOf u n).origin = some e.origin ∧ u.mem = s.mem)
      ∧ (laneOf s n = l → l.state = .loading → l.rows = l.rect.h → l.marked ≠ 0 → l.origin = some (.sleep rep) →
          s.power.sleep.image = .inLane n →
          ∃ u, exec (.loadingComplete n) s = .next (concluded u)
            ∧ u.mem = (reportTo (sleepRef s) .started .none (outcomeDetail [(1, n.1)]) s).mem
            ∧ u.power = { s.power with sleep := { s.power.sleep with started := true } }
            ∧ laneOf u n = { l with state := .driving, frameIndex := 0 } ∧ u.panel.frameClock.isSome = true)
      ∧ (laneOf s n = l → l.state = .closing → l.origin = some (.sleep rep) → s.power.sleep.image = .inLane n →
          s.power.sleep.started = true → s.panel.queue = [] →
          ∃ u, exec (.closeComplete n) s = .next (concluded u)
            ∧ u.power.sleep = { s.power.sleep with image := .over, imageFlag := .drawn }
            ∧ u.power.state = s.power.state ∧ laneOf u n = Lane.free ∧ u.mem = closeRect s.mem l.rect)

/-- R59, R65, R76, R175: the failure of the sleep image entry ends sleep entry: the Sleep fails with the entry's
reason, step 2 and cause ENTRY, and the part is back in the state that it came from. The expiry of its budget clock
with BUDGET_WAIT enabled is such a failure; for an entry of origin COVER the fault is offered to the posted place. That
the return state is kept is the model's choice (log 37). -/
def Clause.SleepImageFailureEndsEntry : Prop :=
  ∀ (s : State) (reason : Reason) (ended : Power),
    s.power.state = .sleepPending → s.power.sleep.image = .queued →
    ended = { s.power with
      state := s.power.returnState
      sleep := { s.power.sleep with record := none, step := none, hold := .stopped, image := .absent } } →
    (∀ e rep, e.origin = .sleep rep →
        failEntry e reason s
          = (reportTo (sleepRef s) .failed reason (outcomeDetail [(1, 2), (1, 4)]) s).withPower ended)
      ∧ ∀ (pos : Fin 32) (e : Entry) (clock : Nat), s.panel.queue[pos.1]? = some e → e.clock = some clock →
          s.panel.settings.budgetLimit ≠ 0 → s.panel.settings.mask.budgetWait = true →
          e.origin = .sleep (sleepRef s) →
          ∃ u, exec (.budgetClockExpiry pos) s = .next (concluded u) ∧ u.power = ended
            ∧ u.panel.queue = s.panel.queue.eraseIdx pos.1
            ∧ u.mem = (reportTo (sleepRef s) .failed .budgetWait (outcomeDetail [(1, 2), (1, 4)]) s).mem
            ∧ (faultOf u .panel).accrued = (faultOf s .panel).accrued ||| FaultKind.budgetWait.flag
            ∧ (sleepRef s = none → (faultOf s .panel).posted = none →
                (faultOf u .panel).posted = some .budgetWait)

/-- R94, R174: a press during sleep entry aborts it and turns no page; a cover open aborts an entry of origin COVER,
which has no outcome, and no other. The Sleep of a press's abort fails ABORTED with the step and cause PRESS. That the
return state is kept is the model's choice (log 37). -/
def Clause.InputsAbortSleepEntry : Prop :=
  ∀ (s v : State) (i : Input) (m : Inputs) (k : Fin 6), m = s.power.inputs → k = inputBit i →
    s.power.state = .sleepPending → m.timers[k].isSome = true → m.raw.getLsbD k.1 ≠ m.debounced.getLsbD k.1 →
    v = (beginEvent s).withPower { s.power with
      inputs := { m with
        debounced := if m.raw.getLsbD k.1 then m.debounced ||| (1#6 <<< k.1)
          else m.debounced &&& ~~~(1#6 <<< k.1)
        timers := m.timers.set k.1 none k.2 } } →
    ((i = .next ∨ i = .prev) → m.raw.getLsbD k.1 = true →
        ∃ u, exec (.debouncedChange i) s = .next (concluded (latchInputs u))
          ∧ u.power = { v.power with
              state := s.power.returnState
              sleep := { s.power.sleep with record := none, step := none, hold := .stopped, image := .absent } }
          ∧ u.mem = (reportTo (sleepRef s) .failed .aborted
              (outcomeDetail [(1, stepCode s.power.sleep.step), (1, 1)]) s).mem
          ∧ u.panel.ring = s.panel.ring ∧ u.panel.queue = s.panel.queue.map orphanEntry
          ∧ (∀ n, laneOf u n = orphanLane (laneOf s n))
          ∧ (s.power.sleep.step = some .darkening → u.light.dark = false)
          ∧ (s.power.sleep.step ≠ some .darkening → u.light = s.light) ∧ u.link = s.link)
      ∧ (∀ rec, i = .cover → m.raw.getLsbD k.1 = false → s.power.sleep.record = some rec → rec.origin = .cover →
        ∃ u, exec (.debouncedChange i) s = .next (concluded (latchInputs u))
          ∧ u.power = { v.power with
              state := s.power.returnState
              sleep := { s.power.sleep with record := none, step := none, hold := .stopped, image := .absent } }
          ∧ u.mem = s.mem ∧ u.panel.ring = s.panel.ring ∧ u.link = s.link)
      ∧ (∀ rec, i = .cover → m.raw.getLsbD k.1 = false → s.power.sleep.record = some rec → rec.origin ≠ .cover →
        exec (.debouncedChange i) s = .next (concluded (latchInputs v)))

/-- R59, R65, R67, R71, R76, R94, R102, R109, R111, R119, R148, R171 to R175, R181: the steps of sleep entry with its
image, its ends by Cancel sleep, by an input and by a failed image entry, and the end of the dark hold (log 11). The
order within the event that starts DARKENING is the model's choice (log 31), an absent sleep record is log 16's, the
return state kept after sleep entry is log 37's, the image flag after an abort is log 53's, and a hold that the Sleep's
DONE ends stands until the wake by log 34. -/
def Obligations.SleepEntryEnds : Prop :=
  Clause.SleepStepsWait ∧ Clause.DrainingEndsInImaging ∧ Clause.DarkeningEndsInSleep ∧ Clause.CancelSleepAbortsSleepEntry
    ∧ Clause.CompletedEntryKeepsImageFlag ∧ Clause.SleepImageDrawn ∧ Clause.SleepImageFailureEndsEntry
    ∧ Clause.InputsAbortSleepEntry ∧ Clause.DarkHoldEndEvaluatesLimiting

/-- R109, R111, R177, R178: the wake timer's expiry in SLEEP wakes the part with cause TIMER, to DOZE or RUN by its
setting: the dark hold ends with the limiting episode evaluated, the clocks start, WAKE is raised and the wake line
pulses. -/
def Clause.WakeTimerWakesPart : Prop :=
  ∀ s : State, s.asleep = true → s.power.sleep.wakeTimer.isSome = true →
    s.reports = [] → readyReader s = none → admitted s = none → turnWaits s = false →
    ∃ t, exec .wakeTimerExpiry s = .next t
      ∧ t.power.state = (if s.power.settings.wakeToDoze then .doze else .run)
      ∧ t.power.sleep.lastWake = .timer ∧ t.power.sleep.wakeCount = s.power.sleep.wakeCount + 1
      ∧ t.power.sleep.record = none ∧ t.power.sleep.wakeTimer = none ∧ t.power.nextMeasure = 250
      ∧ t.light.sampleClock = some 500 ∧ t.light.dark = false ∧ t.notices.getLsbD 8 = true
      ∧ t.wakePulse.isSome = true ∧ t.held = none ∧ t.mem = s.mem ∧ t.panel = s.panel ∧ t.link = s.link
      ∧ t.readers = s.readers ∧ limitingEvaluated s t ({ s.light with dark := false } : Light).limit

/-- R179, R180: a raw change starts the 20 ms debounce timer of its input again. At its expiry a level that is back
where it was stops the timer alone; else the debounced level changes, a press of NEXT or PREV in RUN or DOZE is a
button turn, and the first change since the latch was opened closes it on the levels as they stand and raises
INPUT. Acknowledge inputs reports the snapshot and opens the latch (one byte for each item of its detail: log 50). -/
def Clause.InputsDebouncedAndLatched : Prop :=
  ∀ (s : State) (i : Input) (level : Bool) (m : Inputs) (k : Fin 6), m = s.power.inputs → k = inputBit i →
    (m.raw.getLsbD k.1 ≠ level →
        exec (.rawInputChange i level) s
          = .next (concluded ((beginEvent s).withPower { s.power with
              inputs := { m with
                raw := if level then m.raw ||| (1#6 <<< k.1) else m.raw &&& ~~~(1#6 <<< k.1)
                timers := m.timers.set k.1 (some 20) k.2 } })))
      ∧ (m.timers[k].isSome = true → m.raw.getLsbD k.1 = m.debounced.getLsbD k.1 →
        exec (.debouncedChange i) s
          = .next (concluded ((beginEvent s).withPower { s.power with
              inputs := { m with timers := m.timers.set k.1 none k.2 } })))
      ∧ (∀ d u, m.timers[k].isSome = true → m.raw.getLsbD k.1 = true → m.debounced.getLsbD k.1 = false →
          (s.power.state = .run ∨ s.power.state = .doze) →
          ((i = .next ∧ d = Dir.next) ∨ (i = .prev ∧ d = Dir.prev)) →
          u = buttonTurn d none ((beginEvent s).withPower { s.power with
            inputs := { m with
              debounced := m.debounced ||| (1#6 <<< k.1), timers := m.timers.set k.1 none k.2 } }) →
          exec (.debouncedChange i) s
            = .next (concluded (if m.closed then u
              else raise .input (u.withPower { u.power with
                inputs := { u.power.inputs with
                  snapshot := m.debounced ||| (1#6 <<< k.1), closed := true } }))))
      ∧ (∀ o, offered s .power .acknowledgeInputs o = true →
        exec (.acknowledgeInputs o) s
          = .next (carried s o (writeOutcome (offerRef o) .done .none
              (outcomeDetail [(1, m.snapshot.toNat), (1, m.debounced.toNat)])
              ((beginEvent s).withPower { s.power with
                inputs := { m with snapshot := m.debounced, closed := false } }))))

/-- R157, R174, R176: what a debounced change of COVER and of CHARGE_DONE does in RUN or DOZE. A cover close with
cover sleep off, and a cover open, change the latch alone; a charge done sets Qr to Qfull. -/
def Clause.CoverAndChargeInputs : Prop :=
  ∀ (s u : State) (i : Input) (m : Inputs) (k : Fin 6), m = s.power.inputs → k = inputBit i →
    (s.power.state = .run ∨ s.power.state = .doze) → m.closed = true → m.timers[k].isSome = true →
    m.raw.getLsbD k.1 ≠ m.debounced.getLsbD k.1 →
    u = (beginEvent s).withPower { s.power with
      inputs := { m with
        debounced := if m.raw.getLsbD k.1 then m.debounced ||| (1#6 <<< k.1)
          else m.debounced &&& ~~~(1#6 <<< k.1)
        timers := m.timers.set k.1 none k.2 } } →
    ((i = .cover → s.power.settings.coverSleep = false → exec (.debouncedChange i) s = .next (concluded u))
      ∧ (i = .charger → exec (.debouncedChange i) s = .next (concluded u))
      ∧ (i = .chargeDone → m.raw.getLsbD k.1 = true → s.power.gauge.qfull ≠ 0 →
          ∃ v, exec (.debouncedChange i) s = .next (concluded v)
            ∧ v.power.gauge = { s.power.gauge with
                qr := s.power.gauge.qfull, clamp := .none, calibrated := true, soc := 1000 }))

/-- R176: a cover close with cover sleep enabled. In RUN or DOZE it begins a sleep entry of origin COVER from the
power settings, with the wake timer off and result STARTED, unless an image byte lies outside the host area, which
gives REFUSED_IMAGE; during sleep entry and in SLEEP it gives REFUSED_STATE. The image flag NONE at the begin is the
model's choice (log 53). -/
def Clause.CoverCloseStartsSleep : Prop :=
  ∀ (s v u : State) (m : Inputs) (p : PowerSettings), m = s.power.inputs → p = s.power.settings →
    m.timers[(2 : Fin 6)].isSome = true → m.raw.getLsbD 2 = true → m.debounced.getLsbD 2 = false →
    p.coverSleep = true →
    v = (beginEvent s).withPower { s.power with
      inputs := { m with debounced := m.debounced ||| (1#6 <<< 2), timers := m.timers.set 2 none } } →
    ((s.power.state = .run ∨ s.power.state = .doze) →
        (p.coverImage = 0
          ∨ inHostArea p.coverImage.toNat (s.panel.settings.height * (s.panel.settings.width / 2)) = true) →
        p.downloadHold ≠ 0 →
        u = v.withPower { v.power with
          state := .sleepPending
          returnState := s.power.state
          sleep := { s.power.sleep with
            record := some ⟨.cover, p.coverImage, p.coverMode, p.coverWake, 0⟩
            step := some .draining
            hold := .running (p.downloadHold * 1000)
            image := .absent
            imageFlag := .none
            imageLane := none
            imageMode := p.coverMode
            started := false
            slept := 0
            cover := .started } } →
        exec (.debouncedChange .cover) s = .next (concluded (latchInputs u)))
      ∧ ((s.power.state = .run ∨ s.power.state = .doze) → p.coverImage ≠ 0 →
        inHostArea p.coverImage.toNat (s.panel.settings.height * (s.panel.settings.width / 2)) = false →
        exec (.debouncedChange .cover) s
          = .next (concluded (latchInputs
              (v.withPower { v.power with sleep := { s.power.sleep with cover := .refusedImage } }))))
      ∧ ((s.power.state = .sleepPending ∨ s.power.state = .sleep) →
        exec (.debouncedChange .cover) s
          = .next (concluded (latchInputs
              (v.withPower { v.power with sleep := { s.power.sleep with cover := .refusedState } }))))

/-- R177, R178: the inputs that wake a part in SLEEP. With the mark clear a press, a cover open, a change of CHARGER
and a RADIO_WAKE wake it when their flag is in the wake set; with the mark set a charger attached wakes it and
clears the mark. What wakes nothing acts through the latch alone. The wake options are off here. -/
def Clause.InputsWakeSleepingPart : Prop :=
  ∀ (s v : State) (i : Input) (m : Inputs) (k : Fin 6) (rec : SleepRec), m = s.power.inputs → k = inputBit i →
    s.asleep = true → s.power.sleep.record = some rec → m.timers[k].isSome = true →
    m.raw.getLsbD k.1 ≠ m.debounced.getLsbD k.1 →
    s.panel.settings.restoreOnWake = false → s.panel.settings.turnOnWake = false →
    s.reports = [] → readyReader s = none → admitted s = none → turnWaits s = false →
    v = (beginEvent s).withPower { s.power with
      inputs := { m with
        debounced := if m.raw.getLsbD k.1 then m.debounced ||| (1#6 <<< k.1)
          else m.debounced &&& ~~~(1#6 <<< k.1)
        timers := m.timers.set k.1 none k.2 } } →
    ∀ (bit : Nat) (cause : WakeCause),
      (((i = .next ∨ i = .prev) ∧ m.raw.getLsbD k.1 = true ∧ bit = 0 ∧ cause = .button)
        ∨ (i = .cover ∧ m.raw.getLsbD k.1 = false ∧ bit = 1 ∧ cause = .coverOpen)
        ∨ (i = .charger ∧ bit = 2 ∧ cause = .chargerChange)
        ∨ (i = .radioWake ∧ m.raw.getLsbD k.1 = true ∧ bit = 3 ∧ cause = .radioWake)) →
      (s.power.mark = false → rec.wakeSet.getLsbD bit = true →
          ∃ t, exec (.debouncedChange i) s = .next t
            ∧ t.power.state = (if s.power.settings.wakeToDoze then .doze else .run)
            ∧ t.power.sleep.lastWake = cause ∧ t.power.sleep.wakeCount = s.power.sleep.wakeCount + 1
            ∧ t.power.sleep.record = none ∧ t.power.sleep.wakeTimer = none ∧ t.power.nextMeasure = 250
            ∧ t.power.inputs.debounced = v.power.inputs.debounced ∧ t.power.inputs.closed = true
            ∧ t.light.sampleClock = some 500 ∧ t.light.dark = false ∧ t.notices.getLsbD 8 = true
            ∧ t.wakePulse.isSome = true ∧ t.held = none ∧ t.mem = s.mem ∧ t.panel = s.panel)
        ∧ (s.power.mark = true → i = .charger → m.raw.getLsbD k.1 = true →
          ∃ t, exec (.debouncedChange i) s = .next t
            ∧ t.power.state = (if s.power.settings.wakeToDoze then .doze else .run)
            ∧ t.power.sleep.lastWake = .charger ∧ t.power.mark = false ∧ t.notices.getLsbD 8 = true
            ∧ t.mem = s.mem)
        ∧ (((s.power.mark = false ∧ rec.wakeSet.getLsbD bit = false)
            ∨ (s.power.mark = true ∧ ¬ (i = .charger ∧ m.raw.getLsbD k.1 = true))) →
          exec (.debouncedChange i) s = .next (concluded (latchInputs v)))

/-- R87, R95: a press that wakes the part, with the wake options. Restore-on-wake draws the current slot's page
again, unless its tag is EMPTY or the set ABSENT; then turn-on-wake delivers the press as a button turn. -/
def Clause.ButtonWakeTakesOptions : Prop :=
  ∀ (s v w x y : State) (i : Input) (d : Dir) (m : Inputs) (k : Fin 6) (rec : SleepRec) (c : Fin 8),
    m = s.power.inputs → k = inputBit i → s.asleep = true → s.power.mark = false →
    s.power.sleep.record = some rec → rec.wakeSet.getLsbD 0 = true → m.timers[k].isSome = true →
    m.raw.getLsbD k.1 = true → m.debounced.getLsbD k.1 = false →
    ((i = .next ∧ d = .next) ∨ (i = .prev ∧ d = .prev)) → c = s.panel.ring.current →
    v = (beginEvent s).withPower { s.power with
      inputs := { m with debounced := m.debounced ||| (1#6 <<< k.1), timers := m.timers.set k.1 none k.2 } } →
    w = wake .button false v →
    x = (if s.panel.settings.restoreOnWake = true ∧ s.panel.ring.slots[c].tag ≠ .empty ∧ s.panel.setState ≠ .absent
      then scan (w.withPanel { s.panel with
        queue := s.panel.queue ++ [⟨.ring c none, fullPanel s.panel.settings, s.panel.ring.slots[c].image,
          s.panel.settings.width / 2, s.panel.ring.slots[c].mode, false, false, .none, none, false⟩] })
      else w) →
    y = (if s.panel.settings.turnOnWake then buttonTurn d none x else x) →
    exec (.debouncedChange i) s = .next (concluded (latchInputs y))

/-- R180: the snapshot latch at a debounced change of any input that acts through it alone in RUN and DOZE: the
releases of NEXT, PREV and CHARGE_DONE, a cover open, a cover close with cover sleep off, and every change of
CHARGER and RADIO_WAKE. An OPEN latch takes the six levels, closes and raises INPUT; a CLOSED one does nothing. -/
def Clause.LatchTakesFirstChange : Prop :=
  ∀ (s v : State) (i : Input) (m : Inputs) (k : Fin 6), m = s.power.inputs → k = inputBit i →
    (s.power.state = .run ∨ s.power.state = .doze) → m.timers[k].isSome = true →
    m.raw.getLsbD k.1 ≠ m.debounced.getLsbD k.1 →
    (((i = .next ∨ i = .prev ∨ i = .chargeDone) ∧ m.raw.getLsbD k.1 = false) ∨ i = .charger ∨ i = .radioWake
      ∨ (i = .cover ∧ (m.raw.getLsbD k.1 = false ∨ s.power.settings.coverSleep = false))) →
    v = (beginEvent s).withPower { s.power with
      inputs := { m with
        debounced := if m.raw.getLsbD k.1 then m.debounced ||| (1#6 <<< k.1)
          else m.debounced &&& ~~~(1#6 <<< k.1)
        timers := m.timers.set k.1 none k.2 } } →
    (m.closed = true → exec (.debouncedChange i) s = .next (concluded v))
      ∧ (m.closed = false →
        exec (.debouncedChange i) s
          = .next (concluded (raise .input (v.withPower { v.power with
              inputs := { v.power.inputs with snapshot := v.power.inputs.debounced, closed := true } }))))

/-- R180: what the latch does at any debounced change, after what the change itself does. -/
def Clause.LatchFollowsChange : Prop :=
  ∀ u : State,
    (u.power.inputs.closed = true → latchInputs u = u)
      ∧ (u.power.inputs.closed = false →
        latchInputs u = raise .input (u.withPower { u.power with
          inputs := { u.power.inputs with snapshot := u.power.inputs.debounced, closed := true } }))

/-- R87, R95, R157, R174, R176 to R180: the wake timer, the monitored inputs with their latch, cover sleep, and the
wakes by input with their options. The size of the items in the detail of Acknowledge inputs is log 50, and the image
flag at the begin of a cover sleep log 53. -/
def Obligations.TimerAndInputEvents : Prop :=
  Clause.WakeTimerWakesPart ∧ Clause.InputsDebouncedAndLatched ∧ Clause.CoverAndChargeInputs
    ∧ Clause.CoverCloseStartsSleep ∧ Clause.InputsWakeSleepingPart ∧ Clause.ButtonWakeTakesOptions
    ∧ Clause.LatchTakesFirstChange ∧ Clause.LatchFollowsChange
end

