-- ==== Sys2Proof/Laws/Memory.lean ====
section
/-! SUPPORT. Page memory: every operation keeps the canonical form, a read after a write gives what was written,
and a write leaves every other byte alone. -/

namespace Sys2Proof.Machine

/-! ## One byte -/

/-- Every address that a memory lists lies above `a`. -/
def Memory.above (a : Nat) : Memory → Bool
  | [] => true
  | (b, _) :: m => decide (a < b) && Memory.above a m

theorem Memory.above_trans {a b : Nat} (h : a < b) (m : Memory) (hm : Memory.above b m = true) :
    Memory.above a m = true := by
  induction m with
  | nil => rfl
  | cons c m ih =>
    simp only [Memory.above, Bool.and_eq_true, decide_eq_true_eq] at hm ⊢
    exact ⟨by omega, ih hm.2⟩

/-- The canonical form, one entry at a time: the entry is no blank, the rest lies above it and is canonical. -/
theorem Memory.wf_cons (a : Nat) (v : Byte) (m : Memory) :
    Memory.wf ((a, v) :: m) = (v != Config.blankByte && Memory.above a m && Memory.wf m) := by
  induction m generalizing a v with
  | nil => simp [Memory.wf, Memory.above]
  | cons c m ih =>
    obtain ⟨b, w⟩ := c
    rw [Memory.wf, ih]
    by_cases hab : a < b
    · by_cases hb : Memory.above b m = true
      · have : Memory.above a m = true := Memory.above_trans hab m hb
        simp [Memory.above, hab, hb, this]
      · simp [Memory.above, hab, Bool.eq_false_iff.mpr hb]
    · simp [Memory.above, hab]

theorem Memory.read_above {a x : Nat} {m : Memory} (h : Memory.above a m = true) (hx : x ≤ a) :
    Memory.read m x = Config.blankByte := by
  induction m with
  | nil => rfl
  | cons c m ih =>
    simp only [Memory.above, Bool.and_eq_true, decide_eq_true_eq] at h
    simp only [Memory.read]
    rw [if_neg (by omega), ih h.2]

theorem Memory.above_write {a x : Nat} {v : Byte} {m : Memory} (h : Memory.above a m = true) (hx : a < x) :
    Memory.above a (Memory.write m x v) = true := by
  induction m with
  | nil =>
    simp only [Memory.write]
    split <;> simp [Memory.above, hx]
  | cons c m ih =>
    simp only [Memory.above, Bool.and_eq_true, decide_eq_true_eq] at h
    simp only [Memory.write]
    split
    · split <;> simp [Memory.above, h.1, h.2, hx]
    · split
      · split <;> simp [Memory.above, h.2, hx]
      · simp [Memory.above, h.1, ih h.2]

/-- A write keeps the canonical form. -/
theorem Memory.wf_write {m : Memory} (h : m.wf = true) (x : Nat) (v : Byte) : (m.write x v).wf = true := by
  induction m with
  | nil =>
    simp only [Memory.write]
    split
    · rfl
    · rename_i hv
      simp [Memory.wf, hv]
  | cons c m ih =>
    obtain ⟨a, w⟩ := c
    have hc := h
    rw [Memory.wf_cons] at hc
    simp only [Bool.and_eq_true] at hc
    simp only [Memory.write]
    split
    · rename_i hx
      split
      · exact h
      · rename_i hv
        rw [Memory.wf_cons]
        simp [hv, h, Memory.above, hx, Memory.above_trans hx m hc.1.2]
    · split
      · rename_i hx
        split
        · exact hc.2
        · rename_i hv
          subst hx
          rw [Memory.wf_cons]
          simp [hv, hc.1.2, hc.2]
      · rw [Memory.wf_cons]
        have := Memory.above_write (v := v) hc.1.2 (show a < x by omega)
        simp_all

/-- A read after a write to the same byte gives the byte written. -/
theorem Memory.read_write_same {m : Memory} (h : m.wf = true) (x : Nat) (v : Byte) :
    (m.write x v).read x = v := by
  induction m with
  | nil =>
    simp only [Memory.write]
    split
    · rename_i hv; simp [Memory.read, hv]
    · simp [Memory.read]
  | cons c m ih =>
    obtain ⟨a, w⟩ := c
    rw [Memory.wf_cons] at h
    simp only [Bool.and_eq_true] at h
    simp only [Memory.write]
    split
    · rename_i hx
      split
      · rename_i hv
        have := Memory.read_above h.1.2 (show x ≤ a by omega)
        simp only [Memory.read]
        rw [if_neg (by omega), this, hv]
      · simp [Memory.read]
    · split
      · rename_i hx
        split
        · rename_i hv
          rw [Memory.read_above h.1.2 (by omega), hv]
        · simp [Memory.read]
      · rename_i h1 h2
        simp only [Memory.read]
        rw [if_neg (by omega), ih h.2]

/-- A write leaves every other byte alone. -/
theorem Memory.read_write_other (m : Memory) {x y : Nat} (v : Byte) (hy : y ≠ x) :
    (m.write x v).read y = m.read y := by
  induction m with
  | nil =>
    simp only [Memory.write]
    split
    · rfl
    · simp only [Memory.read]; rw [if_neg (by omega)]
  | cons c m ih =>
    obtain ⟨a, w⟩ := c
    simp only [Memory.write]
    split
    · split
      · rfl
      · simp only [Memory.read]; rw [if_neg (by omega)]
    · split
      · rename_i hx
        subst hx
        split
        · simp only [Memory.read]; rw [if_neg (by omega)]
        · simp only [Memory.read]; rw [if_neg (by omega), if_neg (by omega)]
      · simp only [Memory.read]
        rw [ih]

/-! ## Runs of bytes -/

theorem Memory.wf_writeBytes {m : Memory} (h : m.wf = true) (a : Nat) (bs : List Byte) :
    (m.writeBytes a bs).wf = true := by
  induction bs generalizing m a with
  | nil => exact h
  | cons b bs ih => exact ih (Memory.wf_write h a b) (a + 1)

/-- Outside the run a write of bytes changes nothing. -/
theorem Memory.read_writeBytes_other (m : Memory) (a x : Nat) (bs : List Byte)
    (h : x < a ∨ a + bs.length ≤ x) : (m.writeBytes a bs).read x = m.read x := by
  induction bs generalizing m a with
  | nil => rfl
  | cons b bs ih =>
    simp only [List.length_cons] at h
    simp only [Memory.writeBytes]
    rw [ih _ _ (by omega), Memory.read_write_other _ _ (by omega)]

/-- In the run each byte is the one written there. -/
theorem Memory.read_writeBytes_in {m : Memory} (hm : m.wf = true) (a x : Nat) (bs : List Byte)
    (h1 : a ≤ x) (h2 : x < a + bs.length) : (m.writeBytes a bs).read x = bs.getD (x - a) 0 := by
  induction bs generalizing m a with
  | nil => simp at h2; omega
  | cons b bs ih =>
    simp only [List.length_cons] at h2
    simp only [Memory.writeBytes]
    by_cases hx : x = a
    · subst hx
      rw [Memory.read_writeBytes_other _ _ _ _ (by omega), Memory.read_write_same hm]
      simp
    · rw [ih (Memory.wf_write hm a b) (a + 1) (by omega) (by omega)]
      have : x - a = (x - (a + 1)) + 1 := by omega
      rw [this]
      simp

theorem Memory.length_readBytes (m : Memory) (a n : Nat) : (m.readBytes a n).length = n := by
  induction n generalizing a with
  | zero => rfl
  | succ n ih => simp [Memory.readBytes, ih]

/-- Reading bytes depends on those bytes alone. -/
theorem Memory.readBytes_congr {m m' : Memory} (a n : Nat)
    (h : ∀ x, a ≤ x → x < a + n → m.read x = m'.read x) : m.readBytes a n = m'.readBytes a n := by
  induction n generalizing a with
  | zero => rfl
  | succ n ih =>
    simp only [Memory.readBytes]
    rw [h a (by omega) (by omega), ih (a + 1) fun x h1 h2 => h x (by omega) (by omega)]

theorem Memory.wf_ofCells (cs : List Host.Cell) : (Memory.ofCells cs).wf = true := by
  induction cs with
  | nil => rfl
  | cons c cs ih =>
    obtain ⟨a, v⟩ := c
    exact Memory.wf_write ih _ _

/-! ## The other memory operations of the machine -/

theorem wf_storeHost {m : Memory} (h : m.wf = true) (a : Nat) (bs : List Byte) : (storeHost m a bs).wf = true := by
  induction bs generalizing m a with
  | nil => exact h
  | cons b bs ih =>
    simp only [storeHost]
    apply ih
    split
    · exact Memory.wf_write h a b
    · exact h

theorem wf_clearAnchor {m : Memory} (h : m.wf = true) : (clearAnchor m).wf = true :=
  Memory.wf_writeBytes h _ _

theorem wf_loadPixel {m : Memory} (h : m.wf = true) (mode : Mode) (x y source count : Nat) :
    (loadPixel mode x y source (m, count)).1.wf = true :=
  Memory.wf_write h _ _

theorem wf_closePixel {m : Memory} (h : m.wf = true) (x y : Nat) : (closePixel m x y).wf = true := by
  unfold closePixel
  dsimp only
  split
  · exact Memory.wf_write h _ _
  · exact h

theorem wf_closeRect {m : Memory} (h : m.wf = true) (r : Rect) : (closeRect m r).wf = true := by
  have row : ∀ (xs : List Nat) (j : Nat) (m : Memory), m.wf = true →
      (xs.foldl (fun m i => closePixel m (r.x + i) (r.y + j)) m).wf = true := by
    intro xs j
    induction xs with
    | nil => exact fun _ h => h
    | cons i xs ih => exact fun m h => ih _ (wf_closePixel h _ _)
  have rows : ∀ (ys : List Nat) (m : Memory), m.wf = true →
      (ys.foldl (fun m j => (List.range r.w).foldl (fun m i => closePixel m (r.x + i) (r.y + j)) m) m).wf
        = true := by
    intro ys
    induction ys with
    | nil => exact fun _ h => h
    | cons j ys ih => exact fun m h => ih _ (row _ j m h)
  exact rows _ m h

theorem wf_loadRow {m : Memory} (h : m.wf = true) (l : Lane) (count r : Nat) :
    (loadRow l (m, count) r).1.wf = true := by
  have pairs : ∀ (xs : List Nat) (acc : Memory × Nat), acc.1.wf = true →
      (xs.foldl (loadPair l r) acc).1.wf = true := by
    intro xs
    induction xs with
    | nil => exact fun _ h => h
    | cons i xs ih =>
      exact fun acc h => ih _ (wf_loadPixel (wf_loadPixel h l.mode _ _ _ _) l.mode _ _ _ _)
  exact pairs _ (m, count) h

theorem wf_loadRows {s : State} (h : s.mem.wf = true) (n : Fin 16) (k : Nat) : (loadRows n k s).mem.wf = true := by
  have rows : ∀ (l : Lane) (xs : List Nat) (acc : Memory × Nat), acc.1.wf = true →
      (xs.foldl (fun acc j => loadRow l acc (l.rows + j)) acc).1.wf = true := by
    intro l xs
    induction xs with
    | nil => exact fun _ h => h
    | cons j xs ih => exact fun acc h => ih _ (wf_loadRow h l acc.2 _)
  exact rows _ _ (s.mem, _) h

theorem wf_copyLoad {s : State} (h : s.mem.wf = true) (k : Nat) : (copyLoad k s).mem.wf = true := by
  unfold copyLoad
  split
  · exact Memory.wf_writeBytes h _ _
  · exact h

theorem wf_copyBlock {s : State} (h : s.mem.wf = true) (k : Nat) : (copyBlock k s).mem.wf = true := by
  unfold copyBlock
  split
  · exact h
  · dsimp only
    split
    · exact Memory.wf_writeBytes h _ _
    · exact h

theorem wf_storeOutcome {s : State} (h : s.mem.wf = true) (o : ReqRef) (st : OutcomeState) (reason : Reason)
    (detail : BitVec 112) : (storeOutcome o st reason detail s).mem.wf = true :=
  Memory.wf_writeBytes h _ _

theorem wf_writeBundleState {s : State} (h : s.mem.wf = true) (a : Word) (code : Nat) :
    (writeBundleState a code s).mem.wf = true :=
  Memory.wf_writeBytes h _ _

/-- Page memory right after reset has the canonical form. -/
theorem wf_reset : State.reset.mem.wf = true := rfl

end Sys2Proof.Machine
end

