-- ==== Sys2Proof/Laws/State.lean ====
section
/-! SUPPORT. One lemma for each field under each named update of the state. -/

namespace Sys2Proof.Machine

variable (s : State)

@[simp] theorem State.withMem_mem (v : Memory) : (s.withMem v).mem = v := rfl
@[simp] theorem State.withMem_port (v : Memory) : (s.withMem v).port = s.port := rfl
@[simp] theorem State.withMem_readers (v : Memory) : (s.withMem v).readers = s.readers := rfl
@[simp] theorem State.withMem_reports (v : Memory) : (s.withMem v).reports = s.reports := rfl
@[simp] theorem State.withMem_conds (v : Memory) : (s.withMem v).conds = s.conds := rfl
@[simp] theorem State.withMem_panel (v : Memory) : (s.withMem v).panel = s.panel := rfl
@[simp] theorem State.withMem_light (v : Memory) : (s.withMem v).light = s.light := rfl
@[simp] theorem State.withMem_link (v : Memory) : (s.withMem v).link = s.link := rfl
@[simp] theorem State.withMem_power (v : Memory) : (s.withMem v).power = s.power := rfl
@[simp] theorem State.withMem_faults (v : Memory) : (s.withMem v).faults = s.faults := rfl
@[simp] theorem State.withMem_notices (v : Memory) : (s.withMem v).notices = s.notices := rfl
@[simp] theorem State.withMem_wakePulse (v : Memory) : (s.withMem v).wakePulse = s.wakePulse := rfl
@[simp] theorem State.withMem_held (v : Memory) : (s.withMem v).held = s.held := rfl
@[simp] theorem State.withMem_scanned (v : Memory) : (s.withMem v).scanned = s.scanned := rfl
@[simp] theorem State.withMem_free (v : Memory) : (s.withMem v).free = s.free := rfl
@[simp] theorem State.withMem_pending (v : Memory) : (s.withMem v).pending = s.pending := rfl

@[simp] theorem State.withPort_mem (v : Port) : (s.withPort v).mem = s.mem := rfl
@[simp] theorem State.withPort_port (v : Port) : (s.withPort v).port = v := rfl
@[simp] theorem State.withPort_readers (v : Port) : (s.withPort v).readers = s.readers := rfl
@[simp] theorem State.withPort_reports (v : Port) : (s.withPort v).reports = s.reports := rfl
@[simp] theorem State.withPort_conds (v : Port) : (s.withPort v).conds = s.conds := rfl
@[simp] theorem State.withPort_panel (v : Port) : (s.withPort v).panel = s.panel := rfl
@[simp] theorem State.withPort_light (v : Port) : (s.withPort v).light = s.light := rfl
@[simp] theorem State.withPort_link (v : Port) : (s.withPort v).link = s.link := rfl
@[simp] theorem State.withPort_power (v : Port) : (s.withPort v).power = s.power := rfl
@[simp] theorem State.withPort_faults (v : Port) : (s.withPort v).faults = s.faults := rfl
@[simp] theorem State.withPort_notices (v : Port) : (s.withPort v).notices = s.notices := rfl
@[simp] theorem State.withPort_wakePulse (v : Port) : (s.withPort v).wakePulse = s.wakePulse := rfl
@[simp] theorem State.withPort_held (v : Port) : (s.withPort v).held = s.held := rfl
@[simp] theorem State.withPort_scanned (v : Port) : (s.withPort v).scanned = s.scanned := rfl
@[simp] theorem State.withPort_free (v : Port) : (s.withPort v).free = s.free := rfl
@[simp] theorem State.withPort_pending (v : Port) : (s.withPort v).pending = s.pending := rfl

@[simp] theorem State.withReaders_mem (v : Vector Reader 4) : (s.withReaders v).mem = s.mem := rfl
@[simp] theorem State.withReaders_port (v : Vector Reader 4) : (s.withReaders v).port = s.port := rfl
@[simp] theorem State.withReaders_readers (v : Vector Reader 4) : (s.withReaders v).readers = v := rfl
@[simp] theorem State.withReaders_reports (v : Vector Reader 4) : (s.withReaders v).reports = s.reports := rfl
@[simp] theorem State.withReaders_conds (v : Vector Reader 4) : (s.withReaders v).conds = s.conds := rfl
@[simp] theorem State.withReaders_panel (v : Vector Reader 4) : (s.withReaders v).panel = s.panel := rfl
@[simp] theorem State.withReaders_light (v : Vector Reader 4) : (s.withReaders v).light = s.light := rfl
@[simp] theorem State.withReaders_link (v : Vector Reader 4) : (s.withReaders v).link = s.link := rfl
@[simp] theorem State.withReaders_power (v : Vector Reader 4) : (s.withReaders v).power = s.power := rfl
@[simp] theorem State.withReaders_faults (v : Vector Reader 4) : (s.withReaders v).faults = s.faults := rfl
@[simp] theorem State.withReaders_notices (v : Vector Reader 4) : (s.withReaders v).notices = s.notices := rfl
@[simp] theorem State.withReaders_wakePulse (v : Vector Reader 4) : (s.withReaders v).wakePulse = s.wakePulse := rfl
@[simp] theorem State.withReaders_held (v : Vector Reader 4) : (s.withReaders v).held = s.held := rfl
@[simp] theorem State.withReaders_scanned (v : Vector Reader 4) : (s.withReaders v).scanned = s.scanned := rfl
@[simp] theorem State.withReaders_free (v : Vector Reader 4) : (s.withReaders v).free = s.free := rfl
@[simp] theorem State.withReaders_pending (v : Vector Reader 4) : (s.withReaders v).pending = s.pending := rfl

@[simp] theorem State.withReports_mem (v : List (Fin 4 × Watch)) : (s.withReports v).mem = s.mem := rfl
@[simp] theorem State.withReports_port (v : List (Fin 4 × Watch)) : (s.withReports v).port = s.port := rfl
@[simp] theorem State.withReports_readers (v : List (Fin 4 × Watch)) : (s.withReports v).readers = s.readers := rfl
@[simp] theorem State.withReports_reports (v : List (Fin 4 × Watch)) : (s.withReports v).reports = v := rfl
@[simp] theorem State.withReports_conds (v : List (Fin 4 × Watch)) : (s.withReports v).conds = s.conds := rfl
@[simp] theorem State.withReports_panel (v : List (Fin 4 × Watch)) : (s.withReports v).panel = s.panel := rfl
@[simp] theorem State.withReports_light (v : List (Fin 4 × Watch)) : (s.withReports v).light = s.light := rfl
@[simp] theorem State.withReports_link (v : List (Fin 4 × Watch)) : (s.withReports v).link = s.link := rfl
@[simp] theorem State.withReports_power (v : List (Fin 4 × Watch)) : (s.withReports v).power = s.power := rfl
@[simp] theorem State.withReports_faults (v : List (Fin 4 × Watch)) : (s.withReports v).faults = s.faults := rfl
@[simp] theorem State.withReports_notices (v : List (Fin 4 × Watch)) : (s.withReports v).notices = s.notices := rfl
@[simp] theorem State.withReports_wakePulse (v : List (Fin 4 × Watch)) : (s.withReports v).wakePulse = s.wakePulse := rfl
@[simp] theorem State.withReports_held (v : List (Fin 4 × Watch)) : (s.withReports v).held = s.held := rfl
@[simp] theorem State.withReports_scanned (v : List (Fin 4 × Watch)) : (s.withReports v).scanned = s.scanned := rfl
@[simp] theorem State.withReports_free (v : List (Fin 4 × Watch)) : (s.withReports v).free = s.free := rfl
@[simp] theorem State.withReports_pending (v : List (Fin 4 × Watch)) : (s.withReports v).pending = s.pending := rfl

@[simp] theorem State.withConds_mem (v : Conditions) : (s.withConds v).mem = s.mem := rfl
@[simp] theorem State.withConds_port (v : Conditions) : (s.withConds v).port = s.port := rfl
@[simp] theorem State.withConds_readers (v : Conditions) : (s.withConds v).readers = s.readers := rfl
@[simp] theorem State.withConds_reports (v : Conditions) : (s.withConds v).reports = s.reports := rfl
@[simp] theorem State.withConds_conds (v : Conditions) : (s.withConds v).conds = v := rfl
@[simp] theorem State.withConds_panel (v : Conditions) : (s.withConds v).panel = s.panel := rfl
@[simp] theorem State.withConds_light (v : Conditions) : (s.withConds v).light = s.light := rfl
@[simp] theorem State.withConds_link (v : Conditions) : (s.withConds v).link = s.link := rfl
@[simp] theorem State.withConds_power (v : Conditions) : (s.withConds v).power = s.power := rfl
@[simp] theorem State.withConds_faults (v : Conditions) : (s.withConds v).faults = s.faults := rfl
@[simp] theorem State.withConds_notices (v : Conditions) : (s.withConds v).notices = s.notices := rfl
@[simp] theorem State.withConds_wakePulse (v : Conditions) : (s.withConds v).wakePulse = s.wakePulse := rfl
@[simp] theorem State.withConds_held (v : Conditions) : (s.withConds v).held = s.held := rfl
@[simp] theorem State.withConds_scanned (v : Conditions) : (s.withConds v).scanned = s.scanned := rfl
@[simp] theorem State.withConds_free (v : Conditions) : (s.withConds v).free = s.free := rfl
@[simp] theorem State.withConds_pending (v : Conditions) : (s.withConds v).pending = s.pending := rfl

@[simp] theorem State.withPanel_mem (v : Panel) : (s.withPanel v).mem = s.mem := rfl
@[simp] theorem State.withPanel_port (v : Panel) : (s.withPanel v).port = s.port := rfl
@[simp] theorem State.withPanel_readers (v : Panel) : (s.withPanel v).readers = s.readers := rfl
@[simp] theorem State.withPanel_reports (v : Panel) : (s.withPanel v).reports = s.reports := rfl
@[simp] theorem State.withPanel_conds (v : Panel) : (s.withPanel v).conds = s.conds := rfl
@[simp] theorem State.withPanel_panel (v : Panel) : (s.withPanel v).panel = v := rfl
@[simp] theorem State.withPanel_light (v : Panel) : (s.withPanel v).light = s.light := rfl
@[simp] theorem State.withPanel_link (v : Panel) : (s.withPanel v).link = s.link := rfl
@[simp] theorem State.withPanel_power (v : Panel) : (s.withPanel v).power = s.power := rfl
@[simp] theorem State.withPanel_faults (v : Panel) : (s.withPanel v).faults = s.faults := rfl
@[simp] theorem State.withPanel_notices (v : Panel) : (s.withPanel v).notices = s.notices := rfl
@[simp] theorem State.withPanel_wakePulse (v : Panel) : (s.withPanel v).wakePulse = s.wakePulse := rfl
@[simp] theorem State.withPanel_held (v : Panel) : (s.withPanel v).held = s.held := rfl
@[simp] theorem State.withPanel_scanned (v : Panel) : (s.withPanel v).scanned = s.scanned := rfl
@[simp] theorem State.withPanel_free (v : Panel) : (s.withPanel v).free = s.free := rfl
@[simp] theorem State.withPanel_pending (v : Panel) : (s.withPanel v).pending = s.pending := rfl

@[simp] theorem State.withLight_mem (v : Light) : (s.withLight v).mem = s.mem := rfl
@[simp] theorem State.withLight_port (v : Light) : (s.withLight v).port = s.port := rfl
@[simp] theorem State.withLight_readers (v : Light) : (s.withLight v).readers = s.readers := rfl
@[simp] theorem State.withLight_reports (v : Light) : (s.withLight v).reports = s.reports := rfl
@[simp] theorem State.withLight_conds (v : Light) : (s.withLight v).conds = s.conds := rfl
@[simp] theorem State.withLight_panel (v : Light) : (s.withLight v).panel = s.panel := rfl
@[simp] theorem State.withLight_light (v : Light) : (s.withLight v).light = v := rfl
@[simp] theorem State.withLight_link (v : Light) : (s.withLight v).link = s.link := rfl
@[simp] theorem State.withLight_power (v : Light) : (s.withLight v).power = s.power := rfl
@[simp] theorem State.withLight_faults (v : Light) : (s.withLight v).faults = s.faults := rfl
@[simp] theorem State.withLight_notices (v : Light) : (s.withLight v).notices = s.notices := rfl
@[simp] theorem State.withLight_wakePulse (v : Light) : (s.withLight v).wakePulse = s.wakePulse := rfl
@[simp] theorem State.withLight_held (v : Light) : (s.withLight v).held = s.held := rfl
@[simp] theorem State.withLight_scanned (v : Light) : (s.withLight v).scanned = s.scanned := rfl
@[simp] theorem State.withLight_free (v : Light) : (s.withLight v).free = s.free := rfl
@[simp] theorem State.withLight_pending (v : Light) : (s.withLight v).pending = s.pending := rfl

@[simp] theorem State.withLink_mem (v : Link) : (s.withLink v).mem = s.mem := rfl
@[simp] theorem State.withLink_port (v : Link) : (s.withLink v).port = s.port := rfl
@[simp] theorem State.withLink_readers (v : Link) : (s.withLink v).readers = s.readers := rfl
@[simp] theorem State.withLink_reports (v : Link) : (s.withLink v).reports = s.reports := rfl
@[simp] theorem State.withLink_conds (v : Link) : (s.withLink v).conds = s.conds := rfl
@[simp] theorem State.withLink_panel (v : Link) : (s.withLink v).panel = s.panel := rfl
@[simp] theorem State.withLink_light (v : Link) : (s.withLink v).light = s.light := rfl
@[simp] theorem State.withLink_link (v : Link) : (s.withLink v).link = v := rfl
@[simp] theorem State.withLink_power (v : Link) : (s.withLink v).power = s.power := rfl
@[simp] theorem State.withLink_faults (v : Link) : (s.withLink v).faults = s.faults := rfl
@[simp] theorem State.withLink_notices (v : Link) : (s.withLink v).notices = s.notices := rfl
@[simp] theorem State.withLink_wakePulse (v : Link) : (s.withLink v).wakePulse = s.wakePulse := rfl
@[simp] theorem State.withLink_held (v : Link) : (s.withLink v).held = s.held := rfl
@[simp] theorem State.withLink_scanned (v : Link) : (s.withLink v).scanned = s.scanned := rfl
@[simp] theorem State.withLink_free (v : Link) : (s.withLink v).free = s.free := rfl
@[simp] theorem State.withLink_pending (v : Link) : (s.withLink v).pending = s.pending := rfl

@[simp] theorem State.withPower_mem (v : Power) : (s.withPower v).mem = s.mem := rfl
@[simp] theorem State.withPower_port (v : Power) : (s.withPower v).port = s.port := rfl
@[simp] theorem State.withPower_readers (v : Power) : (s.withPower v).readers = s.readers := rfl
@[simp] theorem State.withPower_reports (v : Power) : (s.withPower v).reports = s.reports := rfl
@[simp] theorem State.withPower_conds (v : Power) : (s.withPower v).conds = s.conds := rfl
@[simp] theorem State.withPower_panel (v : Power) : (s.withPower v).panel = s.panel := rfl
@[simp] theorem State.withPower_light (v : Power) : (s.withPower v).light = s.light := rfl
@[simp] theorem State.withPower_link (v : Power) : (s.withPower v).link = s.link := rfl
@[simp] theorem State.withPower_power (v : Power) : (s.withPower v).power = v := rfl
@[simp] theorem State.withPower_faults (v : Power) : (s.withPower v).faults = s.faults := rfl
@[simp] theorem State.withPower_notices (v : Power) : (s.withPower v).notices = s.notices := rfl
@[simp] theorem State.withPower_wakePulse (v : Power) : (s.withPower v).wakePulse = s.wakePulse := rfl
@[simp] theorem State.withPower_held (v : Power) : (s.withPower v).held = s.held := rfl
@[simp] theorem State.withPower_scanned (v : Power) : (s.withPower v).scanned = s.scanned := rfl
@[simp] theorem State.withPower_free (v : Power) : (s.withPower v).free = s.free := rfl
@[simp] theorem State.withPower_pending (v : Power) : (s.withPower v).pending = s.pending := rfl

@[simp] theorem State.withFaults_mem (v : Vector FaultState 4) : (s.withFaults v).mem = s.mem := rfl
@[simp] theorem State.withFaults_port (v : Vector FaultState 4) : (s.withFaults v).port = s.port := rfl
@[simp] theorem State.withFaults_readers (v : Vector FaultState 4) : (s.withFaults v).readers = s.readers := rfl
@[simp] theorem State.withFaults_reports (v : Vector FaultState 4) : (s.withFaults v).reports = s.reports := rfl
@[simp] theorem State.withFaults_conds (v : Vector FaultState 4) : (s.withFaults v).conds = s.conds := rfl
@[simp] theorem State.withFaults_panel (v : Vector FaultState 4) : (s.withFaults v).panel = s.panel := rfl
@[simp] theorem State.withFaults_light (v : Vector FaultState 4) : (s.withFaults v).light = s.light := rfl
@[simp] theorem State.withFaults_link (v : Vector FaultState 4) : (s.withFaults v).link = s.link := rfl
@[simp] theorem State.withFaults_power (v : Vector FaultState 4) : (s.withFaults v).power = s.power := rfl
@[simp] theorem State.withFaults_faults (v : Vector FaultState 4) : (s.withFaults v).faults = v := rfl
@[simp] theorem State.withFaults_notices (v : Vector FaultState 4) : (s.withFaults v).notices = s.notices := rfl
@[simp] theorem State.withFaults_wakePulse (v : Vector FaultState 4) : (s.withFaults v).wakePulse = s.wakePulse := rfl
@[simp] theorem State.withFaults_held (v : Vector FaultState 4) : (s.withFaults v).held = s.held := rfl
@[simp] theorem State.withFaults_scanned (v : Vector FaultState 4) : (s.withFaults v).scanned = s.scanned := rfl
@[simp] theorem State.withFaults_free (v : Vector FaultState 4) : (s.withFaults v).free = s.free := rfl
@[simp] theorem State.withFaults_pending (v : Vector FaultState 4) : (s.withFaults v).pending = s.pending := rfl

@[simp] theorem State.withNotices_mem (v : BitVec 10) : (s.withNotices v).mem = s.mem := rfl
@[simp] theorem State.withNotices_port (v : BitVec 10) : (s.withNotices v).port = s.port := rfl
@[simp] theorem State.withNotices_readers (v : BitVec 10) : (s.withNotices v).readers = s.readers := rfl
@[simp] theorem State.withNotices_reports (v : BitVec 10) : (s.withNotices v).reports = s.reports := rfl
@[simp] theorem State.withNotices_conds (v : BitVec 10) : (s.withNotices v).conds = s.conds := rfl
@[simp] theorem State.withNotices_panel (v : BitVec 10) : (s.withNotices v).panel = s.panel := rfl
@[simp] theorem State.withNotices_light (v : BitVec 10) : (s.withNotices v).light = s.light := rfl
@[simp] theorem State.withNotices_link (v : BitVec 10) : (s.withNotices v).link = s.link := rfl
@[simp] theorem State.withNotices_power (v : BitVec 10) : (s.withNotices v).power = s.power := rfl
@[simp] theorem State.withNotices_faults (v : BitVec 10) : (s.withNotices v).faults = s.faults := rfl
@[simp] theorem State.withNotices_notices (v : BitVec 10) : (s.withNotices v).notices = v := rfl
@[simp] theorem State.withNotices_wakePulse (v : BitVec 10) : (s.withNotices v).wakePulse = s.wakePulse := rfl
@[simp] theorem State.withNotices_held (v : BitVec 10) : (s.withNotices v).held = s.held := rfl
@[simp] theorem State.withNotices_scanned (v : BitVec 10) : (s.withNotices v).scanned = s.scanned := rfl
@[simp] theorem State.withNotices_free (v : BitVec 10) : (s.withNotices v).free = s.free := rfl
@[simp] theorem State.withNotices_pending (v : BitVec 10) : (s.withNotices v).pending = s.pending := rfl

@[simp] theorem State.withWakePulse_mem (v : Option Nat) : (s.withWakePulse v).mem = s.mem := rfl
@[simp] theorem State.withWakePulse_port (v : Option Nat) : (s.withWakePulse v).port = s.port := rfl
@[simp] theorem State.withWakePulse_readers (v : Option Nat) : (s.withWakePulse v).readers = s.readers := rfl
@[simp] theorem State.withWakePulse_reports (v : Option Nat) : (s.withWakePulse v).reports = s.reports := rfl
@[simp] theorem State.withWakePulse_conds (v : Option Nat) : (s.withWakePulse v).conds = s.conds := rfl
@[simp] theorem State.withWakePulse_panel (v : Option Nat) : (s.withWakePulse v).panel = s.panel := rfl
@[simp] theorem State.withWakePulse_light (v : Option Nat) : (s.withWakePulse v).light = s.light := rfl
@[simp] theorem State.withWakePulse_link (v : Option Nat) : (s.withWakePulse v).link = s.link := rfl
@[simp] theorem State.withWakePulse_power (v : Option Nat) : (s.withWakePulse v).power = s.power := rfl
@[simp] theorem State.withWakePulse_faults (v : Option Nat) : (s.withWakePulse v).faults = s.faults := rfl
@[simp] theorem State.withWakePulse_notices (v : Option Nat) : (s.withWakePulse v).notices = s.notices := rfl
@[simp] theorem State.withWakePulse_wakePulse (v : Option Nat) : (s.withWakePulse v).wakePulse = v := rfl
@[simp] theorem State.withWakePulse_held (v : Option Nat) : (s.withWakePulse v).held = s.held := rfl
@[simp] theorem State.withWakePulse_scanned (v : Option Nat) : (s.withWakePulse v).scanned = s.scanned := rfl
@[simp] theorem State.withWakePulse_free (v : Option Nat) : (s.withWakePulse v).free = s.free := rfl
@[simp] theorem State.withWakePulse_pending (v : Option Nat) : (s.withWakePulse v).pending = s.pending := rfl

@[simp] theorem State.withHeld_mem (v : Option (List Byte)) : (s.withHeld v).mem = s.mem := rfl
@[simp] theorem State.withHeld_port (v : Option (List Byte)) : (s.withHeld v).port = s.port := rfl
@[simp] theorem State.withHeld_readers (v : Option (List Byte)) : (s.withHeld v).readers = s.readers := rfl
@[simp] theorem State.withHeld_reports (v : Option (List Byte)) : (s.withHeld v).reports = s.reports := rfl
@[simp] theorem State.withHeld_conds (v : Option (List Byte)) : (s.withHeld v).conds = s.conds := rfl
@[simp] theorem State.withHeld_panel (v : Option (List Byte)) : (s.withHeld v).panel = s.panel := rfl
@[simp] theorem State.withHeld_light (v : Option (List Byte)) : (s.withHeld v).light = s.light := rfl
@[simp] theorem State.withHeld_link (v : Option (List Byte)) : (s.withHeld v).link = s.link := rfl
@[simp] theorem State.withHeld_power (v : Option (List Byte)) : (s.withHeld v).power = s.power := rfl
@[simp] theorem State.withHeld_faults (v : Option (List Byte)) : (s.withHeld v).faults = s.faults := rfl
@[simp] theorem State.withHeld_notices (v : Option (List Byte)) : (s.withHeld v).notices = s.notices := rfl
@[simp] theorem State.withHeld_wakePulse (v : Option (List Byte)) : (s.withHeld v).wakePulse = s.wakePulse := rfl
@[simp] theorem State.withHeld_held (v : Option (List Byte)) : (s.withHeld v).held = v := rfl
@[simp] theorem State.withHeld_scanned (v : Option (List Byte)) : (s.withHeld v).scanned = s.scanned := rfl
@[simp] theorem State.withHeld_free (v : Option (List Byte)) : (s.withHeld v).free = s.free := rfl
@[simp] theorem State.withHeld_pending (v : Option (List Byte)) : (s.withHeld v).pending = s.pending := rfl

@[simp] theorem State.withScanned_mem (v : Bool) : (s.withScanned v).mem = s.mem := rfl
@[simp] theorem State.withScanned_port (v : Bool) : (s.withScanned v).port = s.port := rfl
@[simp] theorem State.withScanned_readers (v : Bool) : (s.withScanned v).readers = s.readers := rfl
@[simp] theorem State.withScanned_reports (v : Bool) : (s.withScanned v).reports = s.reports := rfl
@[simp] theorem State.withScanned_conds (v : Bool) : (s.withScanned v).conds = s.conds := rfl
@[simp] theorem State.withScanned_panel (v : Bool) : (s.withScanned v).panel = s.panel := rfl
@[simp] theorem State.withScanned_light (v : Bool) : (s.withScanned v).light = s.light := rfl
@[simp] theorem State.withScanned_link (v : Bool) : (s.withScanned v).link = s.link := rfl
@[simp] theorem State.withScanned_power (v : Bool) : (s.withScanned v).power = s.power := rfl
@[simp] theorem State.withScanned_faults (v : Bool) : (s.withScanned v).faults = s.faults := rfl
@[simp] theorem State.withScanned_notices (v : Bool) : (s.withScanned v).notices = s.notices := rfl
@[simp] theorem State.withScanned_wakePulse (v : Bool) : (s.withScanned v).wakePulse = s.wakePulse := rfl
@[simp] theorem State.withScanned_held (v : Bool) : (s.withScanned v).held = s.held := rfl
@[simp] theorem State.withScanned_scanned (v : Bool) : (s.withScanned v).scanned = v := rfl
@[simp] theorem State.withScanned_free (v : Bool) : (s.withScanned v).free = s.free := rfl
@[simp] theorem State.withScanned_pending (v : Bool) : (s.withScanned v).pending = s.pending := rfl

@[simp] theorem State.withFree_mem (v : Nat) : (s.withFree v).mem = s.mem := rfl
@[simp] theorem State.withFree_port (v : Nat) : (s.withFree v).port = s.port := rfl
@[simp] theorem State.withFree_readers (v : Nat) : (s.withFree v).readers = s.readers := rfl
@[simp] theorem State.withFree_reports (v : Nat) : (s.withFree v).reports = s.reports := rfl
@[simp] theorem State.withFree_conds (v : Nat) : (s.withFree v).conds = s.conds := rfl
@[simp] theorem State.withFree_panel (v : Nat) : (s.withFree v).panel = s.panel := rfl
@[simp] theorem State.withFree_light (v : Nat) : (s.withFree v).light = s.light := rfl
@[simp] theorem State.withFree_link (v : Nat) : (s.withFree v).link = s.link := rfl
@[simp] theorem State.withFree_power (v : Nat) : (s.withFree v).power = s.power := rfl
@[simp] theorem State.withFree_faults (v : Nat) : (s.withFree v).faults = s.faults := rfl
@[simp] theorem State.withFree_notices (v : Nat) : (s.withFree v).notices = s.notices := rfl
@[simp] theorem State.withFree_wakePulse (v : Nat) : (s.withFree v).wakePulse = s.wakePulse := rfl
@[simp] theorem State.withFree_held (v : Nat) : (s.withFree v).held = s.held := rfl
@[simp] theorem State.withFree_scanned (v : Nat) : (s.withFree v).scanned = s.scanned := rfl
@[simp] theorem State.withFree_free (v : Nat) : (s.withFree v).free = v := rfl
@[simp] theorem State.withFree_pending (v : Nat) : (s.withFree v).pending = s.pending := rfl

@[simp] theorem State.withPending_mem (v : List Instr) : (s.withPending v).mem = s.mem := rfl
@[simp] theorem State.withPending_port (v : List Instr) : (s.withPending v).port = s.port := rfl
@[simp] theorem State.withPending_readers (v : List Instr) : (s.withPending v).readers = s.readers := rfl
@[simp] theorem State.withPending_reports (v : List Instr) : (s.withPending v).reports = s.reports := rfl
@[simp] theorem State.withPending_conds (v : List Instr) : (s.withPending v).conds = s.conds := rfl
@[simp] theorem State.withPending_panel (v : List Instr) : (s.withPending v).panel = s.panel := rfl
@[simp] theorem State.withPending_light (v : List Instr) : (s.withPending v).light = s.light := rfl
@[simp] theorem State.withPending_link (v : List Instr) : (s.withPending v).link = s.link := rfl
@[simp] theorem State.withPending_power (v : List Instr) : (s.withPending v).power = s.power := rfl
@[simp] theorem State.withPending_faults (v : List Instr) : (s.withPending v).faults = s.faults := rfl
@[simp] theorem State.withPending_notices (v : List Instr) : (s.withPending v).notices = s.notices := rfl
@[simp] theorem State.withPending_wakePulse (v : List Instr) : (s.withPending v).wakePulse = s.wakePulse := rfl
@[simp] theorem State.withPending_held (v : List Instr) : (s.withPending v).held = s.held := rfl
@[simp] theorem State.withPending_scanned (v : List Instr) : (s.withPending v).scanned = s.scanned := rfl
@[simp] theorem State.withPending_free (v : List Instr) : (s.withPending v).free = s.free := rfl
@[simp] theorem State.withPending_pending (v : List Instr) : (s.withPending v).pending = v := rfl

@[simp] theorem State.withReader_mem (k : Fin 4) (r : Reader) : (s.withReader k r).mem = s.mem := rfl
@[simp] theorem State.withReader_port (k : Fin 4) (r : Reader) : (s.withReader k r).port = s.port := rfl
@[simp] theorem State.withReader_readers (k : Fin 4) (r : Reader) : (s.withReader k r).readers = s.readers.set k.1 r k.2 := rfl
@[simp] theorem State.withReader_reports (k : Fin 4) (r : Reader) : (s.withReader k r).reports = s.reports := rfl
@[simp] theorem State.withReader_conds (k : Fin 4) (r : Reader) : (s.withReader k r).conds = s.conds := rfl
@[simp] theorem State.withReader_panel (k : Fin 4) (r : Reader) : (s.withReader k r).panel = s.panel := rfl
@[simp] theorem State.withReader_light (k : Fin 4) (r : Reader) : (s.withReader k r).light = s.light := rfl
@[simp] theorem State.withReader_link (k : Fin 4) (r : Reader) : (s.withReader k r).link = s.link := rfl
@[simp] theorem State.withReader_power (k : Fin 4) (r : Reader) : (s.withReader k r).power = s.power := rfl
@[simp] theorem State.withReader_faults (k : Fin 4) (r : Reader) : (s.withReader k r).faults = s.faults := rfl
@[simp] theorem State.withReader_notices (k : Fin 4) (r : Reader) : (s.withReader k r).notices = s.notices := rfl
@[simp] theorem State.withReader_wakePulse (k : Fin 4) (r : Reader) : (s.withReader k r).wakePulse = s.wakePulse := rfl
@[simp] theorem State.withReader_held (k : Fin 4) (r : Reader) : (s.withReader k r).held = s.held := rfl
@[simp] theorem State.withReader_scanned (k : Fin 4) (r : Reader) : (s.withReader k r).scanned = s.scanned := rfl
@[simp] theorem State.withReader_free (k : Fin 4) (r : Reader) : (s.withReader k r).free = s.free := rfl
@[simp] theorem State.withReader_pending (k : Fin 4) (r : Reader) : (s.withReader k r).pending = s.pending := rfl

@[simp] theorem State.withRing_mem (r : Ring) : (s.withRing r).mem = s.mem := rfl
@[simp] theorem State.withRing_port (r : Ring) : (s.withRing r).port = s.port := rfl
@[simp] theorem State.withRing_readers (r : Ring) : (s.withRing r).readers = s.readers := rfl
@[simp] theorem State.withRing_reports (r : Ring) : (s.withRing r).reports = s.reports := rfl
@[simp] theorem State.withRing_conds (r : Ring) : (s.withRing r).conds = s.conds := rfl
@[simp] theorem State.withRing_panel (r : Ring) : (s.withRing r).panel = { s.panel with ring := r } := rfl
@[simp] theorem State.withRing_light (r : Ring) : (s.withRing r).light = s.light := rfl
@[simp] theorem State.withRing_link (r : Ring) : (s.withRing r).link = s.link := rfl
@[simp] theorem State.withRing_power (r : Ring) : (s.withRing r).power = s.power := rfl
@[simp] theorem State.withRing_faults (r : Ring) : (s.withRing r).faults = s.faults := rfl
@[simp] theorem State.withRing_notices (r : Ring) : (s.withRing r).notices = s.notices := rfl
@[simp] theorem State.withRing_wakePulse (r : Ring) : (s.withRing r).wakePulse = s.wakePulse := rfl
@[simp] theorem State.withRing_held (r : Ring) : (s.withRing r).held = s.held := rfl
@[simp] theorem State.withRing_scanned (r : Ring) : (s.withRing r).scanned = s.scanned := rfl
@[simp] theorem State.withRing_free (r : Ring) : (s.withRing r).free = s.free := rfl
@[simp] theorem State.withRing_pending (r : Ring) : (s.withRing r).pending = s.pending := rfl

@[simp] theorem State.withLane_mem (n : Fin 16) (l : Lane) : (s.withLane n l).mem = s.mem := rfl
@[simp] theorem State.withLane_port (n : Fin 16) (l : Lane) : (s.withLane n l).port = s.port := rfl
@[simp] theorem State.withLane_readers (n : Fin 16) (l : Lane) : (s.withLane n l).readers = s.readers := rfl
@[simp] theorem State.withLane_reports (n : Fin 16) (l : Lane) : (s.withLane n l).reports = s.reports := rfl
@[simp] theorem State.withLane_conds (n : Fin 16) (l : Lane) : (s.withLane n l).conds = s.conds := rfl
@[simp] theorem State.withLane_panel (n : Fin 16) (l : Lane) : (s.withLane n l).panel = { s.panel with lanes := s.panel.lanes.set n.1 l n.2 } := rfl
@[simp] theorem State.withLane_light (n : Fin 16) (l : Lane) : (s.withLane n l).light = s.light := rfl
@[simp] theorem State.withLane_link (n : Fin 16) (l : Lane) : (s.withLane n l).link = s.link := rfl
@[simp] theorem State.withLane_power (n : Fin 16) (l : Lane) : (s.withLane n l).power = s.power := rfl
@[simp] theorem State.withLane_faults (n : Fin 16) (l : Lane) : (s.withLane n l).faults = s.faults := rfl
@[simp] theorem State.withLane_notices (n : Fin 16) (l : Lane) : (s.withLane n l).notices = s.notices := rfl
@[simp] theorem State.withLane_wakePulse (n : Fin 16) (l : Lane) : (s.withLane n l).wakePulse = s.wakePulse := rfl
@[simp] theorem State.withLane_held (n : Fin 16) (l : Lane) : (s.withLane n l).held = s.held := rfl
@[simp] theorem State.withLane_scanned (n : Fin 16) (l : Lane) : (s.withLane n l).scanned = s.scanned := rfl
@[simp] theorem State.withLane_free (n : Fin 16) (l : Lane) : (s.withLane n l).free = s.free := rfl
@[simp] theorem State.withLane_pending (n : Fin 16) (l : Lane) : (s.withLane n l).pending = s.pending := rfl

@[simp] theorem State.withParcel_mem (r : Fin 8) (p : Parcel) : (s.withParcel r p).mem = s.mem := rfl
@[simp] theorem State.withParcel_port (r : Fin 8) (p : Parcel) : (s.withParcel r p).port = s.port := rfl
@[simp] theorem State.withParcel_readers (r : Fin 8) (p : Parcel) : (s.withParcel r p).readers = s.readers := rfl
@[simp] theorem State.withParcel_reports (r : Fin 8) (p : Parcel) : (s.withParcel r p).reports = s.reports := rfl
@[simp] theorem State.withParcel_conds (r : Fin 8) (p : Parcel) : (s.withParcel r p).conds = s.conds := rfl
@[simp] theorem State.withParcel_panel (r : Fin 8) (p : Parcel) : (s.withParcel r p).panel = s.panel := rfl
@[simp] theorem State.withParcel_light (r : Fin 8) (p : Parcel) : (s.withParcel r p).light = s.light := rfl
@[simp] theorem State.withParcel_link (r : Fin 8) (p : Parcel) : (s.withParcel r p).link = { s.link with parcels := s.link.parcels.set r.1 p r.2 } := rfl
@[simp] theorem State.withParcel_power (r : Fin 8) (p : Parcel) : (s.withParcel r p).power = s.power := rfl
@[simp] theorem State.withParcel_faults (r : Fin 8) (p : Parcel) : (s.withParcel r p).faults = s.faults := rfl
@[simp] theorem State.withParcel_notices (r : Fin 8) (p : Parcel) : (s.withParcel r p).notices = s.notices := rfl
@[simp] theorem State.withParcel_wakePulse (r : Fin 8) (p : Parcel) : (s.withParcel r p).wakePulse = s.wakePulse := rfl
@[simp] theorem State.withParcel_held (r : Fin 8) (p : Parcel) : (s.withParcel r p).held = s.held := rfl
@[simp] theorem State.withParcel_scanned (r : Fin 8) (p : Parcel) : (s.withParcel r p).scanned = s.scanned := rfl
@[simp] theorem State.withParcel_free (r : Fin 8) (p : Parcel) : (s.withParcel r p).free = s.free := rfl
@[simp] theorem State.withParcel_pending (r : Fin 8) (p : Parcel) : (s.withParcel r p).pending = s.pending := rfl

@[simp] theorem State.withSleep_mem (v : SleepState) : (s.withSleep v).mem = s.mem := rfl
@[simp] theorem State.withSleep_port (v : SleepState) : (s.withSleep v).port = s.port := rfl
@[simp] theorem State.withSleep_readers (v : SleepState) : (s.withSleep v).readers = s.readers := rfl
@[simp] theorem State.withSleep_reports (v : SleepState) : (s.withSleep v).reports = s.reports := rfl
@[simp] theorem State.withSleep_conds (v : SleepState) : (s.withSleep v).conds = s.conds := rfl
@[simp] theorem State.withSleep_panel (v : SleepState) : (s.withSleep v).panel = s.panel := rfl
@[simp] theorem State.withSleep_light (v : SleepState) : (s.withSleep v).light = s.light := rfl
@[simp] theorem State.withSleep_link (v : SleepState) : (s.withSleep v).link = s.link := rfl
@[simp] theorem State.withSleep_power (v : SleepState) : (s.withSleep v).power = { s.power with sleep := v } := rfl
@[simp] theorem State.withSleep_faults (v : SleepState) : (s.withSleep v).faults = s.faults := rfl
@[simp] theorem State.withSleep_notices (v : SleepState) : (s.withSleep v).notices = s.notices := rfl
@[simp] theorem State.withSleep_wakePulse (v : SleepState) : (s.withSleep v).wakePulse = s.wakePulse := rfl
@[simp] theorem State.withSleep_held (v : SleepState) : (s.withSleep v).held = s.held := rfl
@[simp] theorem State.withSleep_scanned (v : SleepState) : (s.withSleep v).scanned = s.scanned := rfl
@[simp] theorem State.withSleep_free (v : SleepState) : (s.withSleep v).free = s.free := rfl
@[simp] theorem State.withSleep_pending (v : SleepState) : (s.withSleep v).pending = s.pending := rfl

@[simp] theorem State.withGauge_mem (g : Gauge) : (s.withGauge g).mem = s.mem := rfl
@[simp] theorem State.withGauge_port (g : Gauge) : (s.withGauge g).port = s.port := rfl
@[simp] theorem State.withGauge_readers (g : Gauge) : (s.withGauge g).readers = s.readers := rfl
@[simp] theorem State.withGauge_reports (g : Gauge) : (s.withGauge g).reports = s.reports := rfl
@[simp] theorem State.withGauge_conds (g : Gauge) : (s.withGauge g).conds = s.conds := rfl
@[simp] theorem State.withGauge_panel (g : Gauge) : (s.withGauge g).panel = s.panel := rfl
@[simp] theorem State.withGauge_light (g : Gauge) : (s.withGauge g).light = s.light := rfl
@[simp] theorem State.withGauge_link (g : Gauge) : (s.withGauge g).link = s.link := rfl
@[simp] theorem State.withGauge_power (g : Gauge) : (s.withGauge g).power = { s.power with gauge := g } := rfl
@[simp] theorem State.withGauge_faults (g : Gauge) : (s.withGauge g).faults = s.faults := rfl
@[simp] theorem State.withGauge_notices (g : Gauge) : (s.withGauge g).notices = s.notices := rfl
@[simp] theorem State.withGauge_wakePulse (g : Gauge) : (s.withGauge g).wakePulse = s.wakePulse := rfl
@[simp] theorem State.withGauge_held (g : Gauge) : (s.withGauge g).held = s.held := rfl
@[simp] theorem State.withGauge_scanned (g : Gauge) : (s.withGauge g).scanned = s.scanned := rfl
@[simp] theorem State.withGauge_free (g : Gauge) : (s.withGauge g).free = s.free := rfl
@[simp] theorem State.withGauge_pending (g : Gauge) : (s.withGauge g).pending = s.pending := rfl

@[simp] theorem State.withInputs_mem (v : Inputs) : (s.withInputs v).mem = s.mem := rfl
@[simp] theorem State.withInputs_port (v : Inputs) : (s.withInputs v).port = s.port := rfl
@[simp] theorem State.withInputs_readers (v : Inputs) : (s.withInputs v).readers = s.readers := rfl
@[simp] theorem State.withInputs_reports (v : Inputs) : (s.withInputs v).reports = s.reports := rfl
@[simp] theorem State.withInputs_conds (v : Inputs) : (s.withInputs v).conds = s.conds := rfl
@[simp] theorem State.withInputs_panel (v : Inputs) : (s.withInputs v).panel = s.panel := rfl
@[simp] theorem State.withInputs_light (v : Inputs) : (s.withInputs v).light = s.light := rfl
@[simp] theorem State.withInputs_link (v : Inputs) : (s.withInputs v).link = s.link := rfl
@[simp] theorem State.withInputs_power (v : Inputs) : (s.withInputs v).power = { s.power with inputs := v } := rfl
@[simp] theorem State.withInputs_faults (v : Inputs) : (s.withInputs v).faults = s.faults := rfl
@[simp] theorem State.withInputs_notices (v : Inputs) : (s.withInputs v).notices = s.notices := rfl
@[simp] theorem State.withInputs_wakePulse (v : Inputs) : (s.withInputs v).wakePulse = s.wakePulse := rfl
@[simp] theorem State.withInputs_held (v : Inputs) : (s.withInputs v).held = s.held := rfl
@[simp] theorem State.withInputs_scanned (v : Inputs) : (s.withInputs v).scanned = s.scanned := rfl
@[simp] theorem State.withInputs_free (v : Inputs) : (s.withInputs v).free = s.free := rfl
@[simp] theorem State.withInputs_pending (v : Inputs) : (s.withInputs v).pending = s.pending := rfl

@[simp] theorem State.withQueue_mem (q : List Entry) : (s.withQueue q).mem = s.mem := rfl
@[simp] theorem State.withQueue_port (q : List Entry) : (s.withQueue q).port = s.port := rfl
@[simp] theorem State.withQueue_readers (q : List Entry) : (s.withQueue q).readers = s.readers := rfl
@[simp] theorem State.withQueue_reports (q : List Entry) : (s.withQueue q).reports = s.reports := rfl
@[simp] theorem State.withQueue_conds (q : List Entry) : (s.withQueue q).conds = s.conds := rfl
@[simp] theorem State.withQueue_panel (q : List Entry) : (s.withQueue q).panel = { s.panel with queue := q } := rfl
@[simp] theorem State.withQueue_light (q : List Entry) : (s.withQueue q).light = s.light := rfl
@[simp] theorem State.withQueue_link (q : List Entry) : (s.withQueue q).link = s.link := rfl
@[simp] theorem State.withQueue_power (q : List Entry) : (s.withQueue q).power = s.power := rfl
@[simp] theorem State.withQueue_faults (q : List Entry) : (s.withQueue q).faults = s.faults := rfl
@[simp] theorem State.withQueue_notices (q : List Entry) : (s.withQueue q).notices = s.notices := rfl
@[simp] theorem State.withQueue_wakePulse (q : List Entry) : (s.withQueue q).wakePulse = s.wakePulse := rfl
@[simp] theorem State.withQueue_held (q : List Entry) : (s.withQueue q).held = s.held := rfl
@[simp] theorem State.withQueue_scanned (q : List Entry) : (s.withQueue q).scanned = s.scanned := rfl
@[simp] theorem State.withQueue_free (q : List Entry) : (s.withQueue q).free = s.free := rfl
@[simp] theorem State.withQueue_pending (q : List Entry) : (s.withQueue q).pending = s.pending := rfl

@[simp] theorem State.withFault_mem (e : Engine) (f : FaultState) : (s.withFault e f).mem = s.mem := rfl
@[simp] theorem State.withFault_port (e : Engine) (f : FaultState) : (s.withFault e f).port = s.port := rfl
@[simp] theorem State.withFault_readers (e : Engine) (f : FaultState) : (s.withFault e f).readers = s.readers := rfl
@[simp] theorem State.withFault_reports (e : Engine) (f : FaultState) : (s.withFault e f).reports = s.reports := rfl
@[simp] theorem State.withFault_conds (e : Engine) (f : FaultState) : (s.withFault e f).conds = s.conds := rfl
@[simp] theorem State.withFault_panel (e : Engine) (f : FaultState) : (s.withFault e f).panel = s.panel := rfl
@[simp] theorem State.withFault_light (e : Engine) (f : FaultState) : (s.withFault e f).light = s.light := rfl
@[simp] theorem State.withFault_link (e : Engine) (f : FaultState) : (s.withFault e f).link = s.link := rfl
@[simp] theorem State.withFault_power (e : Engine) (f : FaultState) : (s.withFault e f).power = s.power := rfl
@[simp] theorem State.withFault_faults (e : Engine) (f : FaultState) : (s.withFault e f).faults = s.faults.set (engineIdx e).1 f (engineIdx e).2 := rfl
@[simp] theorem State.withFault_notices (e : Engine) (f : FaultState) : (s.withFault e f).notices = s.notices := rfl
@[simp] theorem State.withFault_wakePulse (e : Engine) (f : FaultState) : (s.withFault e f).wakePulse = s.wakePulse := rfl
@[simp] theorem State.withFault_held (e : Engine) (f : FaultState) : (s.withFault e f).held = s.held := rfl
@[simp] theorem State.withFault_scanned (e : Engine) (f : FaultState) : (s.withFault e f).scanned = s.scanned := rfl
@[simp] theorem State.withFault_free (e : Engine) (f : FaultState) : (s.withFault e f).free = s.free := rfl
@[simp] theorem State.withFault_pending (e : Engine) (f : FaultState) : (s.withFault e f).pending = s.pending := rfl

/-- R3, R20: what either reset does to the port. -/
@[simp] theorem resetPort_resetting (p : Port) : (resetPort p).resetting = true := rfl
@[simp] theorem resetPort_waiting (p : Port) : (resetPort p).waiting = p.waiting := rfl
@[simp] theorem resetPort_returned (p : Port) : (resetPort p).returned = p.returned := rfl

end Sys2Proof.Machine
end

