-- ==== Sys2Proof/Laws/Outcomes.lean ====
section
/-! SUPPORT. What the shared operations on notices, faults and outcomes can change, said once for each: raising a
cause, an occurrence, the write of an outcome, the note at the end of a hand-over. -/

namespace Sys2Proof.Machine

/-! ## Notices and occurrences -/

/-- Raising a cause changes the NOTICE set and the wake pulse alone (R169, R188). -/
theorem raise_shape (c : Cause) (s : State) :
    ∃ w, raise c s = (s.withNotices (s.notices ||| c.flag)).withWakePulse w := by
  unfold raise addCause pulse
  dsimp only
  split
  · split
    · exact ⟨_, rfl⟩
    · exact ⟨s.wakePulse, rfl⟩
  · exact ⟨s.wakePulse, rfl⟩

/-- Raising FAULT likewise (R184). -/
theorem raiseFault_shape (n : Bool) (s : State) :
    ∃ w, raiseFault n s = (s.withNotices (s.notices ||| Cause.fault.flag)).withWakePulse w := by
  unfold raiseFault addCause pulse
  dsimp only
  split
  · split
    · exact ⟨_, rfl⟩
    · exact ⟨s.wakePulse, rfl⟩
  · exact ⟨s.wakePulse, rfl⟩

/-- A maskable posting is not wake-class (R184). -/
theorem raiseFault_maskable (s : State) :
    raiseFault false s = s.withNotices (s.notices ||| Cause.fault.flag) := by
  simp [raiseFault, addCause]

/-- An occurrence changes fault states, the NOTICE set and the wake pulse alone (R182 to R184). -/
theorem occur_shape (k : FaultKind) (detail : BitVec 128) (s : State) :
    ∃ f n w, occur k detail s = ((s.withFaults f).withNotices n).withWakePulse w := by
  unfold occur
  dsimp only
  split
  · unfold post
    dsimp only
    obtain ⟨w, hw⟩ := raiseFault_shape false ((accrue k s).withFault k.engine
      { faultOf (accrue k s) k.engine with
        posted := some k
        count := (faultOf (accrue k s) k.engine).count + 1
        frame := ⟨some k, none, (faultOf (accrue k s) k.engine).accrued, detail⟩ })
    rw [hw]
    exact ⟨_, _, w, rfl⟩
  · exact ⟨(accrue k s).faults, s.notices, s.wakePulse, rfl⟩

/-! ## Admission in a brownout -/

/-- What admission changes: of a reader, a QUEUE_ROOM hold alone (R12, R164). -/
theorem Reader.endRoomHold_eq (r : Reader) :
    r.endRoomHold = { r with hold := if r.state = .handing ∧ r.hold = .queueRoom then .none else r.hold } := by
  unfold Reader.endRoomHold
  split <;> rfl

@[simp] theorem readerOf_admitReaders (s : State) (k : Fin 4) :
    readerOf (admitReaders s) k = (readerOf s k).endRoomHold := by
  simp [readerOf, admitReaders]

/-- No reader holds with QUEUE_ROOM after it. -/
theorem holdsQueueRoom_admitReaders (s : State) (k : Fin 4) : holdsQueueRoom (admitReaders s) k = false := by
  unfold holdsQueueRoom
  rw [readerOf_admitReaders, Reader.endRoomHold_eq]
  cases (readerOf s k).state <;> cases (readerOf s k).hold <;> simp

/-! ## Outcomes -/

/-- `t` differs from `s` in page memory, the readers, the NOTICE set and the wake pulse alone. -/
def Records (s t : State) : Prop :=
  ∃ m r n w, t = (((s.withMem m).withReaders r).withNotices n).withWakePulse w

theorem Records.refl (s : State) : Records s s := ⟨s.mem, s.readers, s.notices, s.wakePulse, rfl⟩

theorem Records.trans {s t u : State} (h : Records s t) (g : Records t u) : Records s u := by
  obtain ⟨m, r, n, w, rfl⟩ := h
  obtain ⟨m', r', n', w', rfl⟩ := g
  exact ⟨m', r', n', w', rfl⟩

theorem Records.withMem (s : State) (m : Memory) : Records s (s.withMem m) :=
  ⟨m, s.readers, s.notices, s.wakePulse, rfl⟩

theorem Records.withReader (s : State) (k : Fin 4) (r : Reader) : Records s (s.withReader k r) :=
  ⟨s.mem, (s.withReader k r).readers, s.notices, s.wakePulse, rfl⟩

theorem Records.raise (c : Cause) (s : State) : Records s (raise c s) := by
  obtain ⟨w, h⟩ := raise_shape c s
  rw [h]
  exact ⟨s.mem, s.readers, _, w, rfl⟩

/-- Retirement records (R16). -/
theorem Records.retire (k : Fin 4) (b : Bundle) (s : State) : Records s (retire k b s) := by
  unfold Machine.retire writeBundleState
  dsimp only
  split
  · exact (Records.withReader s k _).trans ((Records.withMem _ _).trans (Records.raise _ _))
  · exact (Records.withReader s k _).trans (Records.withMem _ _)

theorem Records.foldl_retire (k : Fin 4) (bs : List Bundle) (s : State) :
    Records s (bs.foldl (fun t b => Machine.retire k b t) s) := by
  induction bs generalizing s with
  | nil => exact Records.refl s
  | cons b bs ih => exact (Records.retire k b s).trans (ih _)

theorem Records.retireOpen (k : Fin 4) (s : State) : Records s (retireOpen k s) :=
  (Records.withReader s k _).trans (Records.foldl_retire k _ _)

/-- The write of an outcome changes page memory, the readers, the NOTICE set and the wake pulse alone
(R7, R16, R17). -/
theorem Records.writeOutcome (o : ReqRef) (st : OutcomeState) (reason : Reason) (detail : BitVec 112)
    (s : State) : Records s (writeOutcome o st reason detail s) := by
  unfold Machine.writeOutcome
  split
  · exact Records.withMem s _
  · split
    · exact Records.refl s
    · dsimp only
      have stored : Records s (storeOutcome o st reason detail s) := Records.withMem s _
      have kept := stored.trans (Records.withReader (storeOutcome o st reason detail s) o.chain
        ((readerOf (storeOutcome o st reason detail s) o.chain).record o st))
      split
      · exact kept.trans ((Records.raise _ _).trans (Records.retireOpen _ _))
      · exact kept.trans (Records.retireOpen _ _)

section Fields

variable {s t : State} (h : Records s t)
include h

theorem Records.port : t.port = s.port := by obtain ⟨m, r, n, w, rfl⟩ := h; rfl
theorem Records.reports : t.reports = s.reports := by obtain ⟨m, r, n, w, rfl⟩ := h; rfl
theorem Records.conds : t.conds = s.conds := by obtain ⟨m, r, n, w, rfl⟩ := h; rfl
theorem Records.panel : t.panel = s.panel := by obtain ⟨m, r, n, w, rfl⟩ := h; rfl
theorem Records.light : t.light = s.light := by obtain ⟨m, r, n, w, rfl⟩ := h; rfl
theorem Records.link : t.link = s.link := by obtain ⟨m, r, n, w, rfl⟩ := h; rfl
theorem Records.power : t.power = s.power := by obtain ⟨m, r, n, w, rfl⟩ := h; rfl
theorem Records.faults : t.faults = s.faults := by obtain ⟨m, r, n, w, rfl⟩ := h; rfl
theorem Records.held : t.held = s.held := by obtain ⟨m, r, n, w, rfl⟩ := h; rfl
theorem Records.scanned : t.scanned = s.scanned := by obtain ⟨m, r, n, w, rfl⟩ := h; rfl
theorem Records.free : t.free = s.free := by obtain ⟨m, r, n, w, rfl⟩ := h; rfl
theorem Records.pending : t.pending = s.pending := by obtain ⟨m, r, n, w, rfl⟩ := h; rfl

end Fields

section WriteOutcome

variable (o : ReqRef) (st : OutcomeState) (reason : Reason) (detail : BitVec 112) (s : State)

@[simp] theorem writeOutcome_port : (writeOutcome o st reason detail s).port = s.port :=
  (Records.writeOutcome o st reason detail s).port
@[simp] theorem writeOutcome_reports : (writeOutcome o st reason detail s).reports = s.reports :=
  (Records.writeOutcome o st reason detail s).reports
@[simp] theorem writeOutcome_conds : (writeOutcome o st reason detail s).conds = s.conds :=
  (Records.writeOutcome o st reason detail s).conds
@[simp] theorem writeOutcome_panel : (writeOutcome o st reason detail s).panel = s.panel :=
  (Records.writeOutcome o st reason detail s).panel
@[simp] theorem writeOutcome_light : (writeOutcome o st reason detail s).light = s.light :=
  (Records.writeOutcome o st reason detail s).light
@[simp] theorem writeOutcome_link : (writeOutcome o st reason detail s).link = s.link :=
  (Records.writeOutcome o st reason detail s).link
@[simp] theorem writeOutcome_power : (writeOutcome o st reason detail s).power = s.power :=
  (Records.writeOutcome o st reason detail s).power
@[simp] theorem writeOutcome_faults : (writeOutcome o st reason detail s).faults = s.faults :=
  (Records.writeOutcome o st reason detail s).faults
@[simp] theorem writeOutcome_held : (writeOutcome o st reason detail s).held = s.held :=
  (Records.writeOutcome o st reason detail s).held
@[simp] theorem writeOutcome_scanned : (writeOutcome o st reason detail s).scanned = s.scanned :=
  (Records.writeOutcome o st reason detail s).scanned
@[simp] theorem writeOutcome_free : (writeOutcome o st reason detail s).free = s.free :=
  (Records.writeOutcome o st reason detail s).free
@[simp] theorem writeOutcome_pending : (writeOutcome o st reason detail s).pending = s.pending :=
  (Records.writeOutcome o st reason detail s).pending

end WriteOutcome

/-! ## An update that the chain unit does not look at passes through the write of an outcome -/

/-- An update of the state that leaves page memory, the readers, the NOTICE set, the wake pulse and the power
state as they are, and that commutes with replacing those four. -/
structure Aside (f : State → State) : Prop where
  mem : ∀ s, (f s).mem = s.mem
  readers : ∀ s, (f s).readers = s.readers
  notices : ∀ s, (f s).notices = s.notices
  pulse : ∀ s, (f s).wakePulse = s.wakePulse
  state : ∀ s, (f s).power.state = s.power.state
  withMem : ∀ s m, (f s).withMem m = f (s.withMem m)
  withReaders : ∀ s r, (f s).withReaders r = f (s.withReaders r)
  withNotices : ∀ s n, (f s).withNotices n = f (s.withNotices n)
  withWakePulse : ∀ s w, (f s).withWakePulse w = f (s.withWakePulse w)

theorem aside_panel (p : Panel) : Aside (·.withPanel p) := by constructor <;> intros <;> rfl
theorem aside_light (l : Light) : Aside (·.withLight l) := by constructor <;> intros <;> rfl
theorem aside_link (l : Link) : Aside (·.withLink l) := by constructor <;> intros <;> rfl
theorem aside_conds (c : Conditions) : Aside (·.withConds c) := by constructor <;> intros <;> rfl
theorem aside_port (p : Port) : Aside (·.withPort p) := by constructor <;> intros <;> rfl
theorem aside_faults (f : Vector FaultState 4) : Aside (·.withFaults f) := by constructor <;> intros <;> rfl

variable {f : State → State}

theorem Aside.raise (hf : Aside f) (c : Cause) (s : State) : raise c (f s) = f (raise c s) := by
  unfold Sys2Proof.Machine.raise addCause Sys2Proof.Machine.pulse
  dsimp only
  rw [hf.state, hf.notices, hf.withNotices]
  split
  · rw [hf.pulse]
    split
    · rw [hf.withWakePulse]
    · rfl
  · rfl

theorem Aside.readerOf (hf : Aside f) (s : State) (k : Fin 4) : readerOf (f s) k = readerOf s k := by
  unfold Sys2Proof.Machine.readerOf
  rw [hf.readers]

theorem Aside.withReader (hf : Aside f) (s : State) (k : Fin 4) (r : Reader) :
    (f s).withReader k r = f (s.withReader k r) := by
  unfold State.withReader
  rw [hf.readers, hf.withReaders]

theorem Aside.retire (hf : Aside f) (k : Fin 4) (b : Bundle) (s : State) :
    retire k b (f s) = f (retire k b s) := by
  unfold Sys2Proof.Machine.retire writeBundleState
  dsimp only
  rw [hf.readerOf, hf.withReader, hf.mem, hf.withMem]
  split
  · rw [hf.raise]
  · rfl

theorem Aside.foldl_retire (hf : Aside f) (k : Fin 4) (bs : List Bundle) (s : State) :
    bs.foldl (fun t b => Machine.retire k b t) (f s) = f (bs.foldl (fun t b => Machine.retire k b t) s) := by
  induction bs generalizing s with
  | nil => rfl
  | cons b bs ih => rw [List.foldl_cons, List.foldl_cons, hf.retire, ih]

/-- The write of an outcome and an update aside commute. -/
theorem Aside.writeOutcome (hf : Aside f) (o : ReqRef) (st : OutcomeState) (reason : Reason)
    (detail : BitVec 112) (s : State) :
    writeOutcome o st reason detail (f s) = f (writeOutcome o st reason detail s) := by
  unfold Sys2Proof.Machine.writeOutcome recorded storeOutcome
  rw [hf.readerOf, hf.mem]
  split
  · rw [hf.withMem]
  · split
    · rfl
    · dsimp only
      unfold retireOpen
      dsimp only
      rw [hf.withMem, hf.readerOf, hf.withReader]
      split
      · rw [hf.raise, hf.readerOf, hf.withReader, hf.foldl_retire]
      · rw [hf.readerOf, hf.withReader, hf.foldl_retire]

/-! ## The end of a hand-over -/

/-- What `note` changes (R21, R109; log 10, log 11): the condition set, the limiting episode, and for an
occurrence of GRANT_LIMITED the fault states, the NOTICE set and the wake pulse. -/
theorem note_shape (s : State) :
    ∃ c b f n w, note s
      = ((((s.withConds c).withLight { s.light with limiting := b }).withFaults f).withNotices n).withWakePulse w := by
  have conds : ∀ t : State, ∃ c, noteConditions t = t.withConds c := by
    intro t
    unfold noteConditions setConditions
    split
    · exact ⟨t.conds, rfl⟩
    · exact ⟨_, rfl⟩
  unfold note noteLimiting
  dsimp only
  split
  · rename_i h
    obtain ⟨c, hc⟩ := conds s
    rw [hc]
    exact ⟨c, s.light.limiting, s.faults, s.notices, s.wakePulse, rfl⟩
  · split
    · obtain ⟨f, n, w, h⟩ := occur_shape .grantLimited
        (grantLimitedDetail (s.withLight { s.light with limiting := s.light.limitingNow }).light)
        (s.withLight { s.light with limiting := s.light.limitingNow })
      rw [h]
      obtain ⟨c, hc⟩ := conds ((((s.withLight { s.light with limiting := s.light.limitingNow }).withFaults
        f).withNotices n).withWakePulse w)
      rw [hc]
      exact ⟨c, _, f, n, w, rfl⟩
    · obtain ⟨c, hc⟩ := conds (s.withLight { s.light with limiting := s.light.limitingNow })
      rw [hc]
      exact ⟨c, _, s.faults, s.notices, s.wakePulse, rfl⟩

/-- The episode follows the duties. -/
@[simp] theorem noteLimiting_light (s : State) :
    (noteLimiting s).light = { s.light with limiting := s.light.limitingNow } := by
  unfold noteLimiting
  dsimp only
  split
  · rename_i h
    rw [h]
  · split
    · obtain ⟨f, n, w, h⟩ := occur_shape .grantLimited
        (grantLimitedDetail (s.withLight { s.light with limiting := s.light.limitingNow }).light)
        (s.withLight { s.light with limiting := s.light.limitingNow })
      rw [h]
      rfl
    · rfl

/-- An episode that follows the duties gives no second occurrence (R109). -/
@[simp] theorem noteLimiting_noteLimiting (s : State) : noteLimiting (noteLimiting s) = noteLimiting s := by
  have h : (noteLimiting s).light.limitingNow = (noteLimiting s).light.limiting := by
    rw [noteLimiting_light]
    rfl
  generalize noteLimiting s = t at h
  exact if_pos h

/-- The end of a hand-over or an event evaluates the episode once (R109). -/
@[simp] theorem note_noteLimiting (s : State) : note (noteLimiting s) = note s := by
  rw [note, noteLimiting_noteLimiting, note]

/-- The end of a dark hold (R111): the light, with the episode that R109 then finds. -/
@[simp] theorem endDark_light (s : State) :
    (endDark s).light
      = { ({ s.light with dark := false } : Light).limit with
          limiting := (({ s.light with dark := false } : Light).limit).limitingNow } :=
  noteLimiting_light _

/-- With no internal step left, settling is over. -/
theorem settle_of_none {s : State} (h : settleStep s = none) (n : Nat) : settle n s = s := by
  cases n with
  | zero => rfl
  | succ n => simp [settle, h]

/-- One internal step taken. -/
theorem settle_of_some {s t : State} (h : settleStep s = some t) (n : Nat) :
    settle (n + 1) s = settle n (noteLimiting t) := by
  simp [settle, h]

end Sys2Proof.Machine
end

