-- ==== Sys2Proof/Laws/Offers.lean ====
section
/-! SUPPORT. What the event of an offered slot is: the hand-over of the slot, then the rest of the event
(R11, R24 to R27). -/

namespace Sys2Proof.Machine

/-- The code of a defined request is defined on its engine (R26). -/
theorem codeClass_request (e : Engine) (r : RequestName) (c : Instr) (o : Offer)
    (h : requestOf c = some (e, r, o)) : codeClass e (requestCode e r) = .defined r := by
  cases c <;> simp [requestOf] at h <;> obtain ⟨rfl, rfl, rfl⟩ := h
  all_goals (first | decide | (rename_i e _; cases e <;> decide))

/-- The command of a defined request offers its slot. -/
theorem exec_request (e : Engine) (r : RequestName) (c : Instr) (o : Offer) (s : State)
    (h : requestOf c = some (e, r, o)) :
    exec c s = runOffer o.wellFormed e (requestCode e r) o s := by
  cases c <;> simp [requestOf] at h <;> obtain ⟨rfl, rfl, rfl⟩ := h <;> rfl

theorem engineOf_field (e : Engine) : engineOf (engineField e) = some e := by cases e <;> decide
theorem engineField_ne (e : Engine) : engineField e ≠ 0 := by cases e <;> decide

/-- An offered slot that comes to its hand-over: the reader that stands at it goes on or holds. -/
theorem offer_reaches {s : State} {x : Slot} {o : Offer} (h : reaches s x o = true) :
    offer x o s = if handingAt (readerOf s o.chain) o then
      (match handOver x (offerRef o) s with
       | none => holdReader o.chain .queueRoom s
       | some t => advance o.chain t)
      else (handOver x (offerRef o) s).getD s := by
  unfold offer
  simp only [reaches, Bool.and_eq_true, Bool.not_eq_true'] at h
  obtain ⟨⟨⟨_, h1⟩, h2⟩, h3⟩ := h
  simp only [h1, h2, Bool.or_self, Bool.false_eq_true, if_false]
  by_cases hh : handingAt (readerOf s o.chain) o = true
  · simp only [hh, if_true] at h3 ⊢
    unfold slotOpen at h3
    unfold handingAt at hh
    split at hh
    · rename_i b hs hc
      simp only [hc] at h3
      simp only [Bool.and_eq_true, Bool.or_eq_true, Bool.not_eq_true', beq_iff_eq] at hh h3
      obtain ⟨⟨⟨hk, ht⟩, hb⟩, hr⟩ := h3
      have ready : readerReady s o.chain = true := by
        unfold readerReady
        simp only [hs, hc]
        rcases hr with hr | ⟨hr, ho⟩
        · simp only [hr]
        · simp only [hr, ho]
      simp only [hk, ready, Bool.and_self, if_true, readerStep, hc]
      have hlt : (readerOf s o.chain).next < 3 := by rw [hh.2]; exact o.slot.2
      simp only [hlt, dif_pos, attemptSlot]
      have hn : (⟨(readerOf s o.chain).next, hlt⟩ : Fin 3) = o.slot := Fin.ext hh.2
      simp only [hn]
      have hx2 : settleSlot (readerOf s o.chain).slots[o.slot] = settleSlot x := by
        unfold keepsSlot at hk
        simp only [beq_iff_eq] at hk
        rw [← hk]; rfl
      have href : (⟨o.chain, b.addr, o.slot, b.tag⟩ : ReqRef) = offerRef o := by
        simp [offerRef, hh.1, ht]
      rw [if_neg]
      · cases hss : settleSlot x (offerRef o) s <;>
          simp only [handOver, hx2, href, hss, Option.map_none, Option.map_some]
      · intro hc2
        simp only [Bool.and_eq_true, Bool.not_eq_true'] at hc2
        rcases hb with hb | hb
        · exact absurd (hc2.1.symm.trans hb) (by decide)
        · rw [hb] at hc2; simp at hc2
    · simp at hh
  · simp only [Bool.not_eq_true] at hh
    simp only [hh, Bool.false_eq_true, if_false, Bool.not_eq_true'] at h3 ⊢
    simp [h3]

/-- The event of a slot that is settled. -/
theorem offerEvent_carried {s : State} {x : Slot} {o : Offer} {u : State} (h : reaches s x o = true)
    (hu : settleSlot x (offerRef o) (beginEvent s) = some u) :
    offerEvent x o s = carried s o u := by
  have hb : reaches (beginEvent s) x o = true := h
  unfold offerEvent event
  rw [offer_reaches hb]
  have : handOver x (offerRef o) (beginEvent s) = some (note u) := by simp [handOver, hu]
  simp only [this, Option.getD_some]
  rfl

/-- The event of a defined request that its engine takes, from step 4 of R27 on. -/
theorem request_carried {e : Engine} {r : RequestName} {c : Instr} {o : Offer} {s : State}
    (h : requestOf c = some (e, r, o)) (ho : offered s e r o = true) :
    exec c s = .next (carried s o (takeRequest e r (offerRef o) true o.ops (beginEvent s))) := by
  rw [exec_request e r c o s h]
  have hcc := codeClass_request e r c o h
  simp only [offered, presented, Bool.and_eq_true, decide_eq_true_eq, Bool.not_eq_true', Bool.or_eq_true,
    beq_iff_eq, Option.isNone_iff_eq_none] at ho
  obtain ⟨⟨⟨⟨⟨⟨hr, hq⟩, hcnd⟩, hd⟩, hp⟩, hz⟩, hs⟩ := ho
  have hw : o.wellFormed = true := by simp only [reaches, Bool.and_eq_true] at hr; exact hr.1.1.1
  unfold runOffer guarded
  rw [hw, if_pos rfl]
  congr 1
  apply offerEvent_carried hr
  have hq' : ¬ 15 < o.qual.toNat := by omega
  have hst : settleSlot (offerSlot (engineField e) (requestCode e r) o) (offerRef o) (beginEvent s)
      = offerCode e (requestCode e r) (offerRef o) (condition (beginEvent s) o.qual) o.ops (beginEvent s) := by
    unfold settleSlot
    rw [if_neg (show ¬ (offerSlot (engineField e) (requestCode e r) o).engine = 0 from engineField_ne e)]
    have : engineOf (offerSlot (engineField e) (requestCode e r) o).engine = some e := engineOf_field e
    rw [this]
    exact if_neg hq'
  rw [hst]
  have hc1 : condition (beginEvent s) o.qual = true := hcnd
  rw [hc1]
  simp only [offerCode, hcc, offerDefined, if_true]
  have hd1 : declines (beginEvent s) r = false := by cases r <;> exact hd
  rw [hd1]
  simp only [Bool.false_eq_true, if_false]
  congr 1
  unfold examine
  have hf : faultOf (beginEvent s) e = faultOf s e := rfl
  have hs1 : sleepingRefusal (beginEvent s) r = false := by cases r <;> exact hs
  rw [hf, hs1, hz]
  rcases hp with hp | hp
  · simp [hp]
  · simp [hp]

end Sys2Proof.Machine
end

