-- ==== Sys2Proof/Laws/PerInstr.lean ====
section
/-! SUPPORT. One lemma per command for the family `Fields`: the slot that a command offers. -/

open Sys2Proof.Machine

namespace Sys2Proof.Laws

/-- A well-formed command that offers a slot offers a well-formed one, and the command of a defined request
offers a slot whose request code its engine serves (R26). -/
def Fields.Statement (i : Instr) : Prop :=
  (∀ o, offerOf i = some o → i.wellFormed = true → o.wellFormed = true)
    ∧ ∀ e r o, requestOf i = some (e, r, o) → offerOf i = some o ∧ codeClass e (requestCode e r) = .defined r

theorem Fields.powerOnReset : Fields.Statement (.powerOnReset) := by
  refine ⟨fun _ h => ?_, fun _ _ _ h => ?_⟩ <;> cases h

theorem Fields.resetPin : Fields.Statement (.resetPin) := by
  refine ⟨fun _ h => ?_, fun _ _ _ h => ?_⟩ <;> cases h

theorem Fields.resetWrite (value : Word) : Fields.Statement (.resetWrite value) := by
  refine ⟨fun _ h => ?_, fun _ _ _ h => ?_⟩ <;> cases h

theorem Fields.resetComplete : Fields.Statement (.resetComplete) := by
  refine ⟨fun _ h => ?_, fun _ _ _ h => ?_⟩ <;> cases h

theorem Fields.hostWrite (addr : Word) (data : List Byte) : Fields.Statement (.hostWrite addr data) := by
  refine ⟨fun _ h => ?_, fun _ _ _ h => ?_⟩ <;> cases h

theorem Fields.hostRead (addr : Word) (len : Nat) : Fields.Statement (.hostRead addr len) := by
  refine ⟨fun _ h => ?_, fun _ _ _ h => ?_⟩ <;> cases h

theorem Fields.noticeRead : Fields.Statement (.noticeRead) := by
  refine ⟨fun _ h => ?_, fun _ _ _ h => ?_⟩ <;> cases h

theorem Fields.resetRead : Fields.Statement (.resetRead) := by
  refine ⟨fun _ h => ?_, fun _ _ _ h => ?_⟩ <;> cases h

theorem Fields.noticeWrite (value : Word) : Fields.Statement (.noticeWrite value) := by
  refine ⟨fun _ h => ?_, fun _ _ _ h => ?_⟩ <;> cases h

theorem Fields.bundleReadComplete (chain : Fin 4) : Fields.Statement (.bundleReadComplete chain) := by
  refine ⟨fun _ h => ?_, fun _ _ _ h => ?_⟩ <;> cases h

theorem Fields.barrierRelease (chain : Fin 4) : Fields.Statement (.barrierRelease chain) := by
  refine ⟨fun _ h => ?_, fun _ _ _ h => ?_⟩ <;> cases h

theorem Fields.queueRoomAdmit : Fields.Statement (.queueRoomAdmit) := by
  refine ⟨fun _ h => ?_, fun _ _ _ h => ?_⟩ <;> cases h

theorem Fields.listRoomRelease (chain : Fin 4) : Fields.Statement (.listRoomRelease chain) := by
  refine ⟨fun _ h => ?_, fun _ _ _ h => ?_⟩ <;> cases h

theorem Fields.emptySlot (o : Offer) (code : Byte) : Fields.Statement (.emptySlot o code) := by
  refine ⟨fun _ h w => ?_, fun _ _ _ h => ?_⟩
  · cases h
    exact w
  · cases h

theorem Fields.reservedEngine (engine : BitVec 3) (o : Offer) (code : Byte) :
    Fields.Statement (.reservedEngine engine o code) := by
  refine ⟨fun _ h w => ?_, fun _ _ _ h => ?_⟩
  · cases h
    rw [Instr.wellFormed, Bool.and_eq_true] at w
    exact w.2
  · cases h

theorem Fields.noOp (e : Engine) (o : Offer) : Fields.Statement (.noOp e o) := by
  refine ⟨fun _ h w => ?_, fun _ _ _ h => ?_⟩
  · cases h
    exact w
  · cases h

theorem Fields.reservedRequestCode (e : Engine) (o : Offer) (code : Byte) :
    Fields.Statement (.reservedRequestCode e o code) := by
  refine ⟨fun _ h w => ?_, fun _ _ _ h => ?_⟩
  · cases h
    rw [Instr.wellFormed, Bool.and_eq_true] at w
    exact w.2
  · cases h

theorem Fields.extensionRequestCode (e : Engine) (o : Offer) (code : Byte) :
    Fields.Statement (.extensionRequestCode e o code) := by
  refine ⟨fun _ h w => ?_, fun _ _ _ h => ?_⟩
  · cases h
    rw [Instr.wellFormed, Bool.and_eq_true] at w
    exact w.2
  · cases h

theorem Fields.ignoredRequestCode (e : Engine) (o : Offer) (code : Byte) :
    Fields.Statement (.ignoredRequestCode e o code) := by
  refine ⟨fun _ h w => ?_, fun _ _ _ h => ?_⟩
  · cases h
    rw [Instr.wellFormed, Bool.and_eq_true] at w
    exact w.2
  · cases h

theorem Fields.test (e : Engine) (o : Offer) : Fields.Statement (.test e o) := by
  refine ⟨fun _ h w => ?_, fun _ _ _ h => ?_⟩
  · cases h
    exact w
  · cases h
    cases e <;> exact ⟨rfl, by decide⟩

theorem Fields.setConditions (o : Offer) : Fields.Statement (.setConditions o) := by
  refine ⟨fun _ h w => ?_, fun _ _ _ h => ?_⟩
  · cases h
    exact w
  · cases h
    exact ⟨rfl, by decide⟩

theorem Fields.clearFaults (e : Engine) (o : Offer) : Fields.Statement (.clearFaults e o) := by
  refine ⟨fun _ h w => ?_, fun _ _ _ h => ?_⟩
  · cases h
    exact w
  · cases h
    cases e <;> exact ⟨rfl, by decide⟩

theorem Fields.configurePanel (o : Offer) : Fields.Statement (.configurePanel o) := by
  refine ⟨fun _ h w => ?_, fun _ _ _ h => ?_⟩
  · cases h
    exact w
  · cases h
    exact ⟨rfl, by decide⟩

theorem Fields.loadWaveformSet (o : Offer) : Fields.Statement (.loadWaveformSet o) := by
  refine ⟨fun _ h w => ?_, fun _ _ _ h => ?_⟩
  · cases h
    exact w
  · cases h
    exact ⟨rfl, by decide⟩

theorem Fields.waveformLoadComplete : Fields.Statement (.waveformLoadComplete) := by
  refine ⟨fun _ h => ?_, fun _ _ _ h => ?_⟩ <;> cases h

theorem Fields.updateRegion (o : Offer) : Fields.Statement (.updateRegion o) := by
  refine ⟨fun _ h w => ?_, fun _ _ _ h => ?_⟩
  · cases h
    exact w
  · cases h
    exact ⟨rfl, by decide⟩

theorem Fields.cancelUpdate (o : Offer) : Fields.Statement (.cancelUpdate o) := by
  refine ⟨fun _ h w => ?_, fun _ _ _ h => ?_⟩
  · cases h
    exact w
  · cases h
    exact ⟨rfl, by decide⟩

theorem Fields.entryStart (pos : Fin 32) : Fields.Statement (.entryStart pos) := by
  refine ⟨fun _ h => ?_, fun _ _ _ h => ?_⟩ <;> cases h

theorem Fields.budgetClockExpiry (pos : Fin 32) : Fields.Statement (.budgetClockExpiry pos) := by
  refine ⟨fun _ h => ?_, fun _ _ _ h => ?_⟩ <;> cases h

theorem Fields.loadingComplete (lane : Fin 16) : Fields.Statement (.loadingComplete lane) := by
  refine ⟨fun _ h => ?_, fun _ _ _ h => ?_⟩ <;> cases h

theorem Fields.panelFrame : Fields.Statement (.panelFrame) := by
  refine ⟨fun _ h => ?_, fun _ _ _ h => ?_⟩ <;> cases h

theorem Fields.closeComplete (lane : Fin 16) : Fields.Statement (.closeComplete lane) := by
  refine ⟨fun _ h => ?_, fun _ _ _ h => ?_⟩ <;> cases h

theorem Fields.stagePage (o : Offer) : Fields.Statement (.stagePage o) := by
  refine ⟨fun _ h w => ?_, fun _ _ _ h => ?_⟩
  · cases h
    exact w
  · cases h
    exact ⟨rfl, by decide⟩

theorem Fields.freeSlot (o : Offer) : Fields.Statement (.freeSlot o) := by
  refine ⟨fun _ h w => ?_, fun _ _ _ h => ?_⟩
  · cases h
    exact w
  · cases h
    exact ⟨rfl, by decide⟩

theorem Fields.ringReset (o : Offer) : Fields.Statement (.ringReset o) := by
  refine ⟨fun _ h w => ?_, fun _ _ _ h => ?_⟩
  · cases h
    exact w
  · cases h
    exact ⟨rfl, by decide⟩

theorem Fields.showSlot (o : Offer) : Fields.Statement (.showSlot o) := by
  refine ⟨fun _ h w => ?_, fun _ _ _ h => ?_⟩
  · cases h
    exact w
  · cases h
    exact ⟨rfl, by decide⟩

theorem Fields.turn (o : Offer) : Fields.Statement (.turn o) := by
  refine ⟨fun _ h w => ?_, fun _ _ _ h => ?_⟩
  · cases h
    exact w
  · cases h
    exact ⟨rfl, by decide⟩

theorem Fields.heldTurnQueued : Fields.Statement (.heldTurnQueued) := by
  refine ⟨fun _ h => ?_, fun _ _ _ h => ?_⟩ <;> cases h

theorem Fields.configureLight (o : Offer) : Fields.Statement (.configureLight o) := by
  refine ⟨fun _ h w => ?_, fun _ _ _ h => ?_⟩
  · cases h
    exact w
  · cases h
    exact ⟨rfl, by decide⟩

theorem Fields.setLight (o : Offer) : Fields.Statement (.setLight o) := by
  refine ⟨fun _ h w => ?_, fun _ _ _ h => ?_⟩
  · cases h
    exact w
  · cases h
    exact ⟨rfl, by decide⟩

theorem Fields.rampStep : Fields.Statement (.rampStep) := by
  refine ⟨fun _ h => ?_, fun _ _ _ h => ?_⟩ <;> cases h

theorem Fields.ambientSampleStart : Fields.Statement (.ambientSampleStart) := by
  refine ⟨fun _ h => ?_, fun _ _ _ h => ?_⟩ <;> cases h

theorem Fields.ambientSampleAnswer (lux : Half) : Fields.Statement (.ambientSampleAnswer lux) := by
  refine ⟨fun _ h => ?_, fun _ _ _ h => ?_⟩ <;> cases h

theorem Fields.ambientSampleTimeout : Fields.Statement (.ambientSampleTimeout) := by
  refine ⟨fun _ h => ?_, fun _ _ _ h => ?_⟩ <;> cases h

theorem Fields.configureLink (o : Offer) : Fields.Statement (.configureLink o) := by
  refine ⟨fun _ h w => ?_, fun _ _ _ h => ?_⟩
  · cases h
    exact w
  · cases h
    exact ⟨rfl, by decide⟩

theorem Fields.radioOn (o : Offer) : Fields.Statement (.radioOn o) := by
  refine ⟨fun _ h w => ?_, fun _ _ _ h => ?_⟩
  · cases h
    exact w
  · cases h
    exact ⟨rfl, by decide⟩

theorem Fields.radioOff (o : Offer) : Fields.Statement (.radioOff o) := by
  refine ⟨fun _ h w => ?_, fun _ _ _ h => ?_⟩
  · cases h
    exact w
  · cases h
    exact ⟨rfl, by decide⟩

theorem Fields.frameStart (b : Byte) : Fields.Statement (.frameStart b) := by
  refine ⟨fun _ h => ?_, fun _ _ _ h => ?_⟩ <;> cases h

theorem Fields.stationMismatch (b : Byte) : Fields.Statement (.stationMismatch b) := by
  refine ⟨fun _ h => ?_, fun _ _ _ h => ?_⟩ <;> cases h

theorem Fields.sizeOverflow (b : Byte) : Fields.Statement (.sizeOverflow b) := by
  refine ⟨fun _ h => ?_, fun _ _ _ h => ?_⟩ <;> cases h

theorem Fields.frameAbort : Fields.Statement (.frameAbort) := by
  refine ⟨fun _ h => ?_, fun _ _ _ h => ?_⟩ <;> cases h

theorem Fields.frameClose : Fields.Statement (.frameClose) := by
  refine ⟨fun _ h => ?_, fun _ _ _ h => ?_⟩ <;> cases h

theorem Fields.takeHeldFrame : Fields.Statement (.takeHeldFrame) := by
  refine ⟨fun _ h => ?_, fun _ _ _ h => ?_⟩ <;> cases h

theorem Fields.blockWriteComplete : Fields.Statement (.blockWriteComplete) := by
  refine ⟨fun _ h => ?_, fun _ _ _ h => ?_⟩ <;> cases h

theorem Fields.quietTimerExpiry (rec : Fin 8) : Fields.Statement (.quietTimerExpiry rec) := by
  refine ⟨fun _ h => ?_, fun _ _ _ h => ?_⟩ <;> cases h

theorem Fields.verifyComplete (rec : Fin 8) : Fields.Statement (.verifyComplete rec) := by
  refine ⟨fun _ h => ?_, fun _ _ _ h => ?_⟩ <;> cases h

theorem Fields.frameSendStart : Fields.Statement (.frameSendStart) := by
  refine ⟨fun _ h => ?_, fun _ _ _ h => ?_⟩ <;> cases h

theorem Fields.frameSendEnd : Fields.Statement (.frameSendEnd) := by
  refine ⟨fun _ h => ?_, fun _ _ _ h => ?_⟩ <;> cases h

theorem Fields.armParcel (o : Offer) : Fields.Statement (.armParcel o) := by
  refine ⟨fun _ h w => ?_, fun _ _ _ h => ?_⟩
  · cases h
    exact w
  · cases h
    exact ⟨rfl, by decide⟩

theorem Fields.cancelParcel (o : Offer) : Fields.Statement (.cancelParcel o) := by
  refine ⟨fun _ h w => ?_, fun _ _ _ h => ?_⟩
  · cases h
    exact w
  · cases h
    exact ⟨rfl, by decide⟩

theorem Fields.releaseParcel (o : Offer) : Fields.Statement (.releaseParcel o) := by
  refine ⟨fun _ h w => ?_, fun _ _ _ h => ?_⟩
  · cases h
    exact w
  · cases h
    exact ⟨rfl, by decide⟩

theorem Fields.reportParcel (o : Offer) : Fields.Statement (.reportParcel o) := by
  refine ⟨fun _ h w => ?_, fun _ _ _ h => ?_⟩
  · cases h
    exact w
  · cases h
    exact ⟨rfl, by decide⟩

theorem Fields.configurePower (o : Offer) : Fields.Statement (.configurePower o) := by
  refine ⟨fun _ h w => ?_, fun _ _ _ h => ?_⟩
  · cases h
    exact w
  · cases h
    exact ⟨rfl, by decide⟩

theorem Fields.setCharge (o : Offer) : Fields.Statement (.setCharge o) := by
  refine ⟨fun _ h w => ?_, fun _ _ _ h => ?_⟩
  · cases h
    exact w
  · cases h
    exact ⟨rfl, by decide⟩

theorem Fields.measurement (vb : Int) (ib : Int) (batteryTemp : Int) (panelTemp : Int) :
    Fields.Statement (.measurement vb ib batteryTemp panelTemp) := by
  refine ⟨fun _ h => ?_, fun _ _ _ h => ?_⟩ <;> cases h

theorem Fields.doze (o : Offer) : Fields.Statement (.doze o) := by
  refine ⟨fun _ h w => ?_, fun _ _ _ h => ?_⟩
  · cases h
    exact w
  · cases h
    exact ⟨rfl, by decide⟩

theorem Fields.sleep (o : Offer) : Fields.Statement (.sleep o) := by
  refine ⟨fun _ h w => ?_, fun _ _ _ h => ?_⟩
  · cases h
    exact w
  · cases h
    exact ⟨rfl, by decide⟩

theorem Fields.downloadHoldExpiry : Fields.Statement (.downloadHoldExpiry) := by
  refine ⟨fun _ h => ?_, fun _ _ _ h => ?_⟩ <;> cases h

theorem Fields.drainingEnd : Fields.Statement (.drainingEnd) := by
  refine ⟨fun _ h => ?_, fun _ _ _ h => ?_⟩ <;> cases h

theorem Fields.imagingEnd : Fields.Statement (.imagingEnd) := by
  refine ⟨fun _ h => ?_, fun _ _ _ h => ?_⟩ <;> cases h

theorem Fields.darkeningEnd : Fields.Statement (.darkeningEnd) := by
  refine ⟨fun _ h => ?_, fun _ _ _ h => ?_⟩ <;> cases h

theorem Fields.cancelSleep (o : Offer) : Fields.Statement (.cancelSleep o) := by
  refine ⟨fun _ h w => ?_, fun _ _ _ h => ?_⟩
  · cases h
    exact w
  · cases h
    exact ⟨rfl, by decide⟩

theorem Fields.acknowledgeInputs (o : Offer) : Fields.Statement (.acknowledgeInputs o) := by
  refine ⟨fun _ h w => ?_, fun _ _ _ h => ?_⟩
  · cases h
    exact w
  · cases h
    exact ⟨rfl, by decide⟩

theorem Fields.rawInputChange (i : Input) (level : Bool) : Fields.Statement (.rawInputChange i level) := by
  refine ⟨fun _ h => ?_, fun _ _ _ h => ?_⟩ <;> cases h

theorem Fields.debouncedChange (i : Input) : Fields.Statement (.debouncedChange i) := by
  refine ⟨fun _ h => ?_, fun _ _ _ h => ?_⟩ <;> cases h

theorem Fields.wakeTimerExpiry : Fields.Statement (.wakeTimerExpiry) := by
  refine ⟨fun _ h => ?_, fun _ _ _ h => ?_⟩ <;> cases h

theorem Fields.wakePulseEnd : Fields.Statement (.wakePulseEnd) := by
  refine ⟨fun _ h => ?_, fun _ _ _ h => ?_⟩ <;> cases h

theorem Fields.huntDelimiter : Fields.Statement (.huntDelimiter) := by
  refine ⟨fun _ h => ?_, fun _ _ _ h => ?_⟩ <;> cases h

theorem Fields.discardDelimiter : Fields.Statement (.discardDelimiter) := by
  refine ⟨fun _ h => ?_, fun _ _ _ h => ?_⟩ <;> cases h

theorem Fields.frameDataByte (b : Byte) : Fields.Statement (.frameDataByte b) := by
  refine ⟨fun _ h => ?_, fun _ _ _ h => ?_⟩ <;> cases h

end Sys2Proof.Laws
end

