-- ==== Sys2Proof/Laws/Scan.lean ====
section
/-! SUPPORT. The scan of an event and the arrivals in it (R58, R61): what each does to the queue's scan. -/

namespace Sys2Proof.Machine

@[simp] theorem freshEvent_scanned (s : State) : (freshEvent s).scanned = false := rfl
@[simp] theorem beginEvent_scanned (s : State) : (beginEvent s).scanned = false := rfl
@[simp] theorem nextEvent_scanned (s : State) : (nextEvent s).scanned = false := rfl
@[simp] theorem scan_scanned (s : State) : (scan s).scanned = true := rfl

/-- The first arrival of an event runs its scan. -/
theorem arrival_of_fresh {s : State} (h : s.scanned = false) : arrival s = scan s := by simp [arrival, h]

/-- A later arrival is taken by the scan that has run. -/
theorem arrival_of_scanned {s : State} (h : s.scanned = true) : arrival s = scanNewest s := by simp [arrival, h]

/-- An entry that is the first scan event of its event. -/
theorem addEntry_of_fresh {s : State} (e : Entry) (h : s.scanned = false) :
    addEntry e s = scan (s.withQueue (s.panel.queue ++ [e])) := arrival_of_fresh h

/-- An entry that joins after the scan of its event has run: it alone is examined. -/
theorem addEntry_of_scanned {s : State} (e : Entry) (h : s.scanned = true) (ho : scanOpen s.panel = true) :
    addEntry e s = (examineEntry s.panel.queue.length e (s.withQueue (s.panel.queue ++ [e]))).1 := by
  have hq : scanOpen (s.withQueue (s.panel.queue ++ [e])).panel = true := ho
  have hl : (s.withQueue (s.panel.queue ++ [e])).panel.queue = s.panel.queue ++ [e] := rfl
  unfold addEntry
  rw [arrival_of_scanned (s := s.withQueue (s.panel.queue ++ [e])) h]
  unfold scanNewest
  rw [if_pos hq, hl, List.length_append, List.length_singleton, Nat.add_sub_cancel]
  simp [scanFrom]

/-- A scan that finds the set not VALID, or the range refusal in force, holds every entry (R62). -/
theorem scan_of_closed {s : State} (h : scanOpen s.panel = false) : scan s = (holdForSet s).withScanned true := by
  simp [scan, h]

end Sys2Proof.Machine
end

