-- ==== Sys2Proof/Laws/Transmit.lean ====
section
/-! SUPPORT. What the transmitter changes (R128): one transmit clock, and the clocks of an idle step. -/

namespace Sys2Proof.Machine

/-- A transmit clock that is no event of its own moves the bytes sent and the line alone. -/
theorem Link.transmit_of_no_event {l : Link} (h : l.atFrameEvent = false) :
    ∃ n b, l.transmit = { l with sent := n, line := b } := by
  unfold Link.atFrameEvent at h
  unfold Link.transmit
  split
  · split
    · rename_i f q hs
      rw [hs] at h
      simp only [decide_eq_false_iff_not, Nat.not_le] at h
      rw [if_pos h]
      exact ⟨_, _, rfl⟩
    · rename_i f q hs ho
      rw [hs, ho] at h
      cases h
    · exact ⟨l.sent, _, rfl⟩
  · exact ⟨l.sent, l.line, rfl⟩

/-- The transmit clocks of an idle step move the bytes sent and the line alone. -/
theorem Link.transmitUpTo_shape (n : Nat) (l : Link) :
    ∃ m b, l.transmitUpTo n = { l with sent := m, line := b } := by
  induction n generalizing l with
  | zero => exact ⟨l.sent, l.line, rfl⟩
  | succ n ih =>
    unfold Link.transmitUpTo
    split
    · exact ⟨l.sent, l.line, rfl⟩
    · rename_i h
      obtain ⟨m, b, hm⟩ := Link.transmit_of_no_event (Bool.eq_false_iff.mpr h)
      obtain ⟨m', b', hm'⟩ := ih l.transmit
      exact ⟨m', b', by rw [hm', hm]⟩

end Sys2Proof.Machine
end

