-- ==== Sys2Proof/Tests/Slice0.lean ====
section
/-! SUPPORT. Tests: the static checks of a command, the worked values of the manual, and for every statement with
hypotheses a state and operands that meet them. -/

open Sys2Proof Sys2Proof.Machine

namespace Sys2Proof.Tests

set_option Elab.async false

/-! ## Helpers -/

/-- Operand bytes from offsets and little-endian values. -/
def operands (fields : List (Nat × Nat)) : Operands :=
  BitVec.ofNat 160 (fields.map fun f => f.2 * 256 ^ f.1).sum

/-- A slot offered by chain 1, at slot 0 of a bundle that no reader holds, with the qualifier ALWAYS. -/
def ask (fields : List (Nat × Nat)) : Offer := ⟨1, 0x1000, 0, 7, 0, operands fields⟩

/-- The same slot with another qualifier. -/
def askIf (qual : Byte) (fields : List (Nat × Nat)) : Offer := { ask fields with qual := qual }

/-- The part after reset with its panel, light, link or power engine replaced. -/
def ofPanel (p : Panel) : State := State.reset.withPanel p
def ofLight (l : Light) : State := State.reset.withLight l
def ofLink (l : Link) : State := State.reset.withLink l
def ofPower (p : Power) : State := State.reset.withPower p

/-- The part after reset with bytes placed at an address. -/
def placed (a : Nat) (bytes : List Byte) : State := State.reset.withMem (Memory.writeBytes [] a bytes)

/-! ## The static checks of a command (log 20) -/

theorem test_wf_misaligned_bundle : (Instr.doze { ask [] with bundle := 0x1010 }).wellFormed = false := by decide
theorem test_wf_low_bundle : (Instr.doze { ask [] with bundle := 0x3E0 }).wellFormed = false := by decide
theorem test_wf_high_bundle : (Instr.doze { ask [] with bundle := 0x2FFFF80 }).wellFormed = false := by decide
theorem test_wf_last_bundle : (Instr.doze { ask [] with bundle := 0x2FFFF60 }).wellFormed = true := by decide
theorem test_wf_engine_in_use : (Instr.reservedEngine 4 (ask []) 0).wellFormed = false := by decide
theorem test_wf_defined_code : (Instr.reservedRequestCode .light (ask []) 0x04).wellFormed = false := by decide
theorem test_wf_not_extension : (Instr.extensionRequestCode .link (ask []) 0x80).wellFormed = false := by decide
theorem test_wf_not_ignored : (Instr.ignoredRequestCode .power (ask []) 0x7F).wellFormed = false := by decide
theorem test_wf_empty_write : (Instr.hostWrite 0x1000 []).wellFormed = false := by decide
theorem test_wf_empty_read : (Instr.hostRead 0x1000 0).wellFormed = false := by decide
theorem test_wf_start_delimiter : (Instr.frameStart 0xE7).wellFormed = false := by decide
theorem test_wf_mismatch_delimiter : (Instr.stationMismatch 0xE7).wellFormed = false := by decide
theorem test_wf_overflow_delimiter : (Instr.sizeOverflow 0xE7).wellFormed = false := by decide
theorem test_wf_data_delimiter : (Instr.frameDataByte 0xE7).wellFormed = false := by decide

/-- An ill-formed command is refused. -/
theorem test_ill_formed_refused : exec (.hostRead 0x1000 0) State.reset = .refused .illFormed := by rfl

/-! ## Worked values of the manual -/

/-- R124: over the nine ASCII bytes of the digits 1 to 9 the link CRC is 0x29B1. -/
theorem test_crc16_digits :
    crc16 [0x31, 0x32, 0x33, 0x34, 0x35, 0x36, 0x37, 0x38, 0x39] = 0x29B1 := by decide +kernel

/-- R144: over zero bytes the CRC-32 is 0. -/
theorem test_crc32_no_bytes : crc32 [] = 0 := by decide

/-- The usual check value of the CRC-32 with the parameters of R47 and R144. -/
theorem test_crc32_digits :
    crc32 [0x31, 0x32, 0x33, 0x34, 0x35, 0x36, 0x37, 0x38, 0x39] = 0xCBF43926 := by decide +kernel

/-- R101: a level of 1000 at warmth 50 gives both duties 2047. -/
theorem test_mix_full_level :
    ({ Light.reset with level := 1000 } : Light).mix.dw = 2047
      ∧ ({ Light.reset with level := 1000 } : Light).mix.dc = 2047 := by decide

/-- R160: the floor of Vopen rounds toward minus infinity. -/
theorem test_open_voltage_floors : openVoltage 3700 (-1) 200 = 3699 := by decide

/-- R120: a delimiter byte goes on the line as the escape and the byte XOR 0x40. -/
theorem test_escape_delimiter : escapeByte 0xE7 = [0xE5, 0xA7] := by decide

/-- R5, check 4: a bundle that follows the one held at 0x1000 is acceptable, one 32 bytes earlier is in use. -/
def holding : State :=
  State.reset.withReader 2
    { Reader.reset with state := .awaitLink, next := 3, current := some ⟨0x1000, 1, false, #v[.done, .pending, .done]⟩ }

theorem test_bundle_in_use :
    checkBundle holding 0x1080 = .inUse ∧ checkBundle holding 0x10A0 = .none
      ∧ checkBundle holding 0xF60 = .none ∧ checkBundle holding 0xF80 = .inUse := by decide +kernel

/-! ## The step, reset and the invariants -/

theorem test_witness_StepRunsFront :
    ({ State.reset with pending := [.rampStep, .panelFrame] } : State).pending = .rampStep :: [.panelFrame] := by rfl

/-- Hypotheses of the invariants that each step keeps: the reset state meets them, and its step answers. -/
def frameDue : State := { State.reset with pending := [.panelFrame] }

theorem test_witness_invariants_hold :
    memoryCanonical frameDue = true ∧ lightBounded frameDue = true ∧ grantAgrees frameDue = true
      ∧ conditionsAgree frameDue = true ∧ gaugeSound frameDue = true := by decide +kernel

theorem test_witness_readersSound : readersSound frameDue := by
  unfold readersSound
  decide +kernel

theorem test_witness_lanesSound : lanesSound frameDue := by
  unfold lanesSound
  decide +kernel

theorem test_witness_step_answers : ∃ t, step frameDue = .next t := ⟨_, rfl⟩

theorem test_witness_NoticesStayUntilTaken :
    takesNotices .panelFrame = false ∧ (∃ t, exec .panelFrame (State.reset.withNotices 0x200) = .next t)
      ∧ (State.reset.withNotices 0x200).notices.getLsbD 9 = true := by
  refine ⟨rfl, ⟨_, rfl⟩, ?_⟩
  decide

/-- A part whose light is limited, with no episode in progress. -/
def limitedPart : State := ofLight { Light.reset with dw := 100, dc := 100, il := 5 }

theorem test_witness_EventEndFollowsState :
    quiet State.reset = true ∧ Engine.power ≠ Engine.light ∧ State.reset.light.limitingNow = false
      ∧ limitedPart.light.limitingNow = true ∧ limitedPart.light.limiting = false
      ∧ State.reset.asleep = false := by decide +kernel

/-! ## Resets and the memory port -/

/-- A part with another geometry than that of a reset. -/
def narrow : State := ofPanel { Panel.reset with settings := { PanelSettings.reset with width := 512 } }

theorem test_witness_PartResetLeavesResetState :
    memoryCanonical narrow = true ∧ resetGeometry narrow.panel.settings = false
      ∧ memoryCanonical State.reset = true ∧ resetGeometry State.reset.panel.settings = true
      ∧ allLanesFree State.reset.panel = true ∧ State.reset.panel.queue = []
      ∧ State.reset.panel.setState.isLoading = false ∧ turnWaits State.reset = false
      ∧ State.reset.power.state ≠ .sleepPending := by decide +kernel

theorem test_witness_HostWriteStoresWritableBytes :
    memoryCanonical State.reset = true ∧ ([1, 2, 3, 4] : List Byte) ≠ []
      ∧ (0x3FFFFFC : Word).toNat + ([1, 2, 3, 4] : List Byte).length ≤ Config.pageMemorySize
      ∧ State.reset.port.resetting = false ∧ State.reset.asleep = false ∧ calm State.reset = true
      ∧ watched State.reset 0x3FFFFFC 4 = [] ∧ watched State.reset 3 2 = [(0, .head), (1, .head)] := by
  decide +kernel

/-- R1: a write across the end of the head words keeps the byte before it and drops the one after it. -/
theorem test_host_write_splits :
    (storeHost [] 0xF [0xAA, 0xBB]).read 0xF = 0xAA ∧ (storeHost [] 0xF [0xAA, 0xBB]).read 0x10 = 0 := by decide

theorem test_witness_HostReadsServed :
    (0x3FFFFFF : Word).toNat + 1 ≤ Config.pageMemorySize ∧ State.reset.port.resetting = false
      ∧ State.reset.asleep = false ∧ calm State.reset = true
      ∧ Config.pageMemorySize < (0x3FFFFFF : Word).toNat + ([1, 2] : List Byte).length
      ∧ Config.pageMemorySize < (0x3FFFFFF : Word).toNat + 2 := by decide +kernel

/-- A part in a reset with a read held by the port. -/
def inReset : State := { State.reset with port := ⟨true, [.read 0 4], []⟩ }

theorem test_witness_ResetHoldsAndServesAccesses :
    inReset.port.resetting = true ∧ quiet inReset = true ∧ synced inReset = true
      ∧ (0x3FFFFFF : Word).toNat + ([1] : List Byte).length ≤ Config.pageMemorySize
      ∧ inReset.port.waiting = [((0 : Word), 4)].map (fun r => Access.read r.1 r.2) := by decide +kernel

/-- R3, R20: both resets keep the accesses that the port held, and a read of RESET held so is served at the end. -/
theorem test_resets_keep_held_accesses :
    (powerOn inReset).port = inReset.port ∧ (partReset inReset).port = inReset.port
      ∧ (∃ t, exec .powerOnReset { inReset with port := ⟨true, [.resetRead], []⟩ } = .next t
        ∧ ∃ u, exec .resetComplete t = .next u ∧ u.port = ⟨false, [], [[0, 0, 0, 0]]⟩) := by
  refine ⟨rfl, rfl, _, rfl, _, rfl, ?_⟩
  decide +kernel

/-- A part in SLEEP, with the brownout mark as given. -/
def sleeping (mark : Bool) : State := ofPower { Power.reset 0 with state := .sleep, mark := mark }

theorem test_witness_HostAccessInSleep :
    (sleeping false).port.resetting = false ∧ (sleeping false).asleep = true ∧ (sleeping false).power.mark = false
      ∧ (sleeping false).reports = [] ∧ readyReader (sleeping false) = none ∧ admitted (sleeping false) = none
      ∧ turnWaits (sleeping false) = false ∧ (sleeping true).port.resetting = false
      ∧ (sleeping true).asleep = true ∧ (sleeping true).power.mark = true
      ∧ (0x3FFFFFF : Word).toNat + 1 ≤ Config.pageMemorySize := by decide +kernel

/-! ## Chain readers -/

theorem test_witness_BundleAddressChecks :
    checkBundle State.reset 0x400 = .none ∧ checkBundle State.reset 0x2FFFF60 = .none
      ∧ checkBundle State.reset 0x401 = .misaligned ∧ checkBundle State.reset 0x2FFFF80 = .outside
      ∧ checkBundle State.reset 0x3E0 = .anchor ∧ (readerOf State.reset 0).current = none
      ∧ (readerOf holding 0).current = none ∧ checkBundle holding 0x1000 ≠ .none := by decide +kernel

theorem test_witness_HeadWriteStartsReader :
    calm State.reset = true ∧ memoryCanonical State.reset = true ∧ readersSound State.reset
      ∧ (readerOf State.reset 3).headArmed = true ∧ checkBundle State.reset 0x400 = .none
      ∧ checkBundle State.reset 0x3E0 ≠ .none := by
  unfold readersSound
  decide +kernel

/-- Reader 1 in a given state at the bundle 0x1000, with given slots and outcomes. -/
def atBundle (state : ReaderState) (hold : HoldCause) (next : Nat) (slots : Vector Slot 3)
    (outcomes : Vector OutcomeState 3) (list : List Bundle) : State :=
  State.reset.withReader 1
    { Reader.reset with
      state := state, hold := hold, next := next, slots := slots, openList := list
      current := some ⟨0x1000, 7, false, outcomes⟩ }

theorem test_witness_BundleReadEntersHanding :
    let s := atBundle .reading .none 0 (Vector.replicate 3 .empty) (Vector.replicate 3 .pending) []
    s.asleep = false ∧ (readerOf s 1).state = .reading
      ∧ (readerOf s 1).current = some ⟨0x1000, 7, false, Vector.replicate 3 .pending⟩
      ∧ (readerOf s 1).fetched = none := by decide +kernel

theorem test_witness_BarrierReleaseHandsSlotOver :
    let s := atBundle .handing .barrier 1 #v[.empty, ⟨0, true, 0, 0, 0⟩, .empty] #v[.done, .pending, .pending] []
    s.asleep = false ∧ (readerOf s 1).state = .handing ∧ (readerOf s 1).hold = .barrier
      ∧ (readerOf s 1).next = 1 ∧ (readerOf s 1).openList = []
      ∧ (∀ i : Fin 3, i < 1 → ((#v[.done, .pending, .pending] : Vector OutcomeState 3)[i]).final = true)
      ∧ (handOver ((readerOf s 1).slots[(1 : Fin 3)]) ⟨1, 0x1000, 1, 7⟩ (beginEvent s)).isSome = true := by
  decide +kernel

/-- A queue entry of an Update region, with a given rectangle and mode. -/
def entry (rect : Rect) (mode : Mode) : Entry :=
  ⟨.request ⟨3, 0x8000, 0, 5⟩, rect, 0x2000, rect.w / 2, mode, false, false, .none, none, false⟩

/-- Reader 1 holding with QUEUE_ROOM at an Update region with the given qualifier, one place of the queue free. -/
def waitingForRoom (qual : Byte) : State :=
  let s := atBundle .handing .queueRoom 0 #v[⟨1, false, qual, 3, 0⟩, .empty, .empty] (Vector.replicate 3 .pending) []
  s.withPanel { s.panel with queue := List.replicate 31 (entry ⟨0, 0, 8, 8⟩ .settle) }

theorem test_witness_QueueRoomAdmitsLowestReader :
    let s := waitingForRoom 0
    let t := waitingForRoom 15
    s.asleep = false ∧ s.panel.queue.length < 32 ∧ turnWaits s = false ∧ holdsQueueRoom s 1 = true
      ∧ (∀ j, j < (1 : Fin 4) → holdsQueueRoom s j = false) ∧ (readerOf s 1).next = 0
      ∧ ((readerOf s 1).slots[(0 : Fin 3)]).barrier = false
      ∧ (handOver ((readerOf s 1).slots[(0 : Fin 3)]) ⟨1, 0x1000, 0, 7⟩ (beginEvent s)).isSome = true
      ∧ t.asleep = false ∧ t.panel.queue.length < 32 ∧ turnWaits t = false ∧ holdsQueueRoom t 1 = true
      ∧ (∀ j, j < (1 : Fin 4) → holdsQueueRoom t j = false) ∧ (readerOf t 1).next = 0
      ∧ ((readerOf t 1).slots[(0 : Fin 3)]).barrier = false
      ∧ ((readerOf t 1).slots[(0 : Fin 3)]).engine = 1 ∧ ((readerOf t 1).slots[(0 : Fin 3)]).code = 0x03
      ∧ ((readerOf t 1).slots[(0 : Fin 3)]).qual.toNat ≤ 15
      ∧ condition t ((readerOf t 1).slots[(0 : Fin 3)]).qual = false := by decide +kernel

/-- Reader 1 holding with LIST_ROOM, with `n` bundles in its list and the given link word. -/
def waitingToLeave (n link : Nat) (outcomes : Vector OutcomeState 3) : State :=
  let s := atBundle .handing .listRoom 3 (Vector.replicate 3 .empty) outcomes
    ((List.range n).map fun i => ⟨BitVec.ofNat 32 (0x10000 + 160 * i), 1, false, Vector.replicate 3 .pending⟩)
  s.withMem (Memory.writeBytes [] 0x1000 (leBytes 4 link))

theorem test_witness_ListRoomReleaseLeavesBundle :
    let s := waitingToLeave 32 0 (Vector.replicate 3 .done)
    let t := waitingToLeave 31 0x4000 (Vector.replicate 3 .queued)
    let b : Bundle := ⟨0x1000, 7, false, Vector.replicate 3 .done⟩
    let c : Bundle := ⟨0x1000, 7, false, Vector.replicate 3 .queued⟩
    s.asleep = false ∧ (readerOf s 1).state = .handing ∧ (readerOf s 1).current = some b
      ∧ (readerOf s 1).hold = .listRoom ∧ (readerOf s 1).next = 3 ∧ linkWord s b = 0 ∧ b.allFinal = true
      ∧ t.asleep = false ∧ (readerOf t 1).state = .handing ∧ (readerOf t 1).current = some c
      ∧ (readerOf t 1).hold = .listRoom ∧ (readerOf t 1).next = 3 ∧ linkWord t c ≠ 0 ∧ c.allFinal = false
      ∧ (readerOf t 1).openList.length < 32 ∧ checkBundle t (linkWord t c) = .none := by decide +kernel

theorem test_witness_OutcomeWriteFollowsRecord :
    let o : ReqRef := ⟨1, 0x1000, 1, 7⟩
    let s := atBundle .handing .none 2 (Vector.replicate 3 .empty) #v[.done, .done, .pending] []
    let t := atBundle .handing .none 2 (Vector.replicate 3 .empty) #v[.done, .queued, .pending] []
    recorded State.reset o = none ∧ recorded s o = some .done ∧ OutcomeState.done.final = true
      ∧ (readerOf t 1).current = some ⟨0x1000, 7, false, #v[.done, .queued, .pending]⟩
      ∧ (readerOf t 1).openList = [] ∧ OutcomeState.queued.final = false := by decide +kernel

/-! ## Hand-over -/

/-- An offer whose qualifier names condition 8, which is false. -/
abbrev unmet (fields : List (Nat × Nat)) : Offer := askIf 8 fields

theorem test_witness_SlotsSettledByEngineAndCode :
    reaches State.reset (offerSlot 0 3 (askIf 200 [])) (askIf 200 []) = true
      ∧ 5 ≤ (5 : BitVec 3).toNat ∧ reaches State.reset (offerSlot 5 3 (askIf 200 [])) (askIf 200 []) = true
      ∧ (ask []).qual.toNat ≤ 15
      ∧ (∀ code ∈ [(0x3F : Byte), 0x40, 0x7F, 0x80, 0xFF, 0x00],
          reaches State.reset (offerSlot (engineField .light) code (ask [])) (ask []) = true)
      ∧ codeClass .light 0x05 = .reserved ∧ codeClass .light 0x3F = .reserved
      ∧ reaches State.reset (offerSlot (engineField .light) 0 (unmet [])) (unmet []) = true
      ∧ (unmet []).qual.toNat ≤ 15 ∧ condition State.reset (unmet []).qual = false
      ∧ condition State.reset (ask []).qual = true ∧ (faultOf State.reset .light).posted = none := by decide +kernel

/-- The part after reset with a fault posted in an engine. -/
def withPosted (k : FaultKind) : State :=
  State.reset.withFault k.engine ⟨k.flag, some k, 1, ⟨some k, none, k.flag, 0⟩⟩

/-- A part in sleep entry at a step. -/
def drowsy (step : SleepStep) : State :=
  ofPower { Power.reset 0 with
    state := .sleepPending, sleep := { SleepState.reset with step := some step } }

theorem test_witness_RequestsNotCarriedOut :
    requestOf (.doze (askIf 16 [])) = some (.power, .doze, askIf 16 [])
      ∧ reaches State.reset (offerSlot (engineField .power) (requestCode .power .doze) (askIf 16 [])) (askIf 16 [])
          = true
      ∧ 15 < (askIf 16 []).qual.toNat
      ∧ reaches State.reset (offerSlot (engineField .power) (requestCode .power .doze) (unmet [])) (unmet []) = true
      ∧ condition State.reset (unmet []).qual = false
      ∧ reaches (withPosted .brownout) (offerSlot (engineField .power) (requestCode .power .doze) (ask [])) (ask [])
          = true
      ∧ condition (withPosted .brownout) (ask []).qual = true ∧ declines (withPosted .brownout) .doze = false
      ∧ (faultOf (withPosted .brownout) .power).posted = some .brownout
      ∧ (faultOf State.reset .power).posted = none ∧ zeroOperands .power .doze (ask [(19, 1)]).ops = false
      ∧ (ask []).qual.toNat ≤ 15
      ∧ reaches (drowsy .draining) (offerSlot (engineField .light) (requestCode .light .setLight) (ask [])) (ask [])
          = true
      ∧ condition (drowsy .draining) (ask []).qual = true ∧ (faultOf (drowsy .draining) .light).posted = none
      ∧ zeroOperands .light .setLight (ask []).ops = true ∧ sleepingRefusal (drowsy .draining) .setLight = true := by
  decide +kernel

/-- A CLEARING Test with a false qualifier meets a posted fault. -/
theorem test_witness_RequestsNotCarriedOut_clearing :
    requestOf (.test .light (unmet [(2, 1)])) = some (.light, .test, unmet [(2, 1)])
      ∧ reaches (withPosted .sensorLost) (offerSlot (engineField .light) (requestCode .light .test) (unmet [(2, 1)]))
          (unmet [(2, 1)]) = true
      ∧ opByte (unmet [(2, 1)]).ops 2 = 1
      ∧ (faultOf (withPosted .sensorLost) .light).posted = some .sensorLost := by decide +kernel

/-- A full queue. -/
def crowded : State :=
  ofPanel { Panel.reset with setState := .valid, queue := List.replicate 32 (entry ⟨0, 0, 8, 8⟩ .settle) }

theorem test_witness_FullQueueDeclinesOffer :
    32 ≤ crowded.panel.queue.length ∧ (ask []).qual.toNat ≤ 15 ∧ condition crowded (ask []).qual = true
      ∧ reaches crowded (offerSlot 1 0x03 (ask [])) (ask []) = true
      ∧ reaches crowded (offerSlot 1 0x08 (ask [])) (ask []) = true := by decide +kernel

theorem test_witness_PlainRequestsChangeOwnEngineOnly :
    requestOf (.radioOn (ask [])) = some (.link, .radioOn, ask []) ∧ plainRequest .radioOn = true
      ∧ offered State.reset .link .radioOn (ask []) = true ∧ calm State.reset = true
      ∧ standsAlone State.reset (ask []) = true ∧ (∃ t, exec (.radioOn (ask [])) State.reset = .next t) := by
  refine ⟨rfl, rfl, ?_, ?_, ?_, ⟨_, rfl⟩⟩ <;> decide +kernel

/-! ## Conditions, tests and faults -/

theorem test_witness_SetConditionsWritesMaskedConditions :
    presented State.reset .power .setConditions (ask [(0, 0x81), (1, 0x80)]) = true
      ∧ condition State.reset (ask []).qual = true ∧ (faultOf State.reset .power).posted = none
      ∧ (∀ i < 20, 2 ≤ i → opByte (ask [(0, 0x81), (1, 0x80)]).ops i = 0)
      ∧ presented State.reset .power .setConditions (ask [(2, 1)]) = true ∧ opByte (ask [(2, 1)]).ops 2 ≠ 0
      ∧ presented State.reset .power .setConditions (ask [(19, 1)]) = true ∧ opByte (ask [(19, 1)]).ops 19 ≠ 0
      ∧ presented (withPosted .brownout) .power .setConditions (ask []) = true
      ∧ condition (withPosted .brownout) (ask []).qual = true
      ∧ (faultOf (withPosted .brownout) .power).posted = some .brownout := by decide +kernel

/-- R33: a mask of 0x81 writes conditions 8 and 15 alone. -/
theorem test_masked_conditions : maskedConditions 0x0121 0x81 0x80 = 0x8021 := by decide

/-- The operands of a Test: selector, relation, kind, targets and value. -/
def testing (selector relation kind p1 p2 value : Nat) : List (Nat × Nat) :=
  [(0, selector), (1, relation), (2, kind), (3, p1), (4, p2), (8, value)]

theorem test_witness_TestWritesResult :
    let o := ask (testing 4 3 3 15 8 0xFFFFFFFF)
    offered State.reset .panel .test o = true
      ∧ sample State.reset .panel (opByte o.ops 0).toNat (opHalf o.ops 6) = some 0
      ∧ relationOf (opByte o.ops 1).toNat = some .ne ∧ testKindOf (opByte o.ops 2).toNat = some .or
      ∧ checkTargets .or (opByte o.ops 3).toNat (opByte o.ops 4).toNat = .none := by decide +kernel

/-- The refusals of a Test, at the first selector, relation and kind that name nothing and at the target bounds. -/
theorem test_witness_TestWritesResult_refusals :
    (∀ f ∈ [testing 5 0 0 8 9 0, testing 4 4 0 8 9 0, testing 4 0 4 8 9 0, testing 4 0 0 1 0 0, testing 4 0 0 0 7 0,
        testing 4 0 0 16 0 0, testing 4 0 1 15 15 0], offered State.reset .panel .test (ask f) = true)
      ∧ sample State.reset .panel 5 0 = none ∧ (sample State.reset .panel 4 0).isSome = true
      ∧ testKindOf 0 = some .plain ∧ testKindOf 1 = some .clearing
      ∧ (opByte (ask (testing 4 0 1 15 15 0)).ops 3).toNat = 15
      ∧ opByte (ask (testing 4 0 1 15 15 0)).ops 3 = opByte (ask (testing 4 0 1 15 15 0)).ops 4
      ∧ (opByte (ask (testing 4 0 0 16 0 0)).ops 3).toNat = 16 := by decide +kernel

theorem test_witness_ClearingTestClearsTargets :
    let o := unmet (testing 4 0 1 8 15 0)
    presented State.reset .panel .test o = true ∧ condition State.reset o.qual = false ∧ opByte o.ops 2 = 1
      ∧ (faultOf State.reset .panel).posted = none ∧ zeroOperands .panel .test o.ops = true
      ∧ (sample State.reset .panel (opByte o.ops 0).toNat (opHalf o.ops 6)).isSome = true
      ∧ (opByte o.ops 1).toNat ≤ 3
      ∧ checkTargets .clearing (opByte o.ops 3).toNat (opByte o.ops 4).toNat = .none := by decide +kernel

/-- The part with every fault of the link engine enabled, and one posted. -/
def watchful (k : FaultKind) : State :=
  (withPosted k).withLink { Link.reset with settings := { LinkSettings.reset with mask := 0x3FF } }

theorem test_witness_FaultsAccruePostAndClear :
    offered (withPosted .digest) .link .clearFaults (ask []) = true
      ∧ Engine.light ≠ FaultKind.crc.engine
      ∧ faultEnabled State.reset .crc = false
      ∧ faultEnabled (watchful .crc) .crc = true ∧ (faultOf (watchful .crc) .link).posted = some .crc
      ∧ FaultKind.crc.code ≤ FaultKind.crc.code
      ∧ (faultOf (watchful .size) .link).posted = some .size ∧ FaultKind.crc.code < FaultKind.size.code := by
  decide +kernel

/-! ## Settings -/

/-- R101 to R113 and 12.3: records that pass their checks. -/
def panelBytes (width : Nat) (mask : Byte) : List Byte :=
  leBytes 2 width ++ leBytes 2 768 ++ [20, 2, 30, 0, mask]
def lightBytes (ifw : Byte) (level : Nat) : List Byte :=
  [ifw, 40] ++ leBytes 2 64 ++ [2, 0] ++ leBytes 2 30 ++ leBytes 2 0 ++ leBytes 2 level ++ leBytes 2 1000 ++ leBytes 2 0
def linkBytes : List Byte := [254, 0, 60, 15, 0x20, 3, 0xFF, 3]
def powerBytes (capacity low : Nat) : List Byte :=
  [capacity, 200, 3300, 3100, 3350, 800, 50].flatMap (leBytes 2) ++ [55, 0] ++ leBytes 2 low ++ leBytes 2 30

/-- The record at 0x1000, the operand of a Configure request. -/
abbrev atRecord : Offer := ask [(0, 0x1000)]

theorem test_witness_ConfigureRefusesBadRecord :
    (∀ a ∈ [0x3FF, 0x2FFFFF0, 0x1000],
        offered State.reset .panel .configurePanel (ask [(0, a)]) = true
          ∧ offered State.reset .light .configureLight (ask [(0, a)]) = true
          ∧ offered State.reset .link .configureLink (ask [(0, a)]) = true
          ∧ offered State.reset .power .configurePower (ask [(0, a)]) = true
          ∧ (opWord (ask [(0, a)]).ops 0).toNat = a)
      ∧ inHostArea 0x3FF 32 = false ∧ inHostArea 0x2FFFFF0 48 = false ∧ inHostArea 0x3FF 16 = false
      ∧ inHostArea 0x2FFFFF0 16 = true ∧ inHostArea 0x1000 48 = true ∧ inHostArea 0x1000 32 = true
      ∧ offered crowded .panel .configurePanel atRecord = true ∧ crowded.panel.queue ≠ []
      ∧ allLanesFree State.reset.panel = true ∧ State.reset.panel.queue = []
      ∧ checkPanelRecord (State.reset.mem.readBytes 0x1000 32) = .range
      ∧ checkLightRecord (State.reset.mem.readBytes 0x1000 48) = .range
      ∧ checkLinkRecord (State.reset.mem.readBytes 0x2FFFFF0 16) = .range
      ∧ checkPowerRecord (State.reset.mem.readBytes 0x1000 48) = .range := by decide +kernel

theorem test_witness_ConfigurePanelTakesRecord :
    ∀ width ∈ [1024, 1032],
      let s := placed 0x1000 (panelBytes width 0)
      let n := panelRecord (s.mem.readBytes (opWord atRecord.ops 0).toNat 32)
      offered s .panel .configurePanel atRecord = true ∧ inHostArea (opWord atRecord.ops 0).toNat 32 = true
        ∧ allLanesFree s.panel = true ∧ s.panel.queue = []
        ∧ checkPanelRecord (s.mem.readBytes (opWord atRecord.ops 0).toNat 32) = .none
        ∧ n.mask.tempRange = s.panel.settings.mask.tempRange ∧ n.width = width
        ∧ n.height = s.panel.settings.height := by decide +kernel

theorem test_witness_ConfigurePanelEnablesTempRange :
    let s := (placed 0x1000 (panelBytes 1024 1)).withPanel { Panel.reset with setState := .valid, range := .outHigh }
    let n := panelRecord (s.mem.readBytes (opWord atRecord.ops 0).toNat 32)
    offered s .panel .configurePanel atRecord = true ∧ allLanesFree s.panel = true ∧ s.panel.queue = []
      ∧ checkPanelRecord (s.mem.readBytes (opWord atRecord.ops 0).toNat 32) = .none
      ∧ n.width = s.panel.settings.width ∧ n.height = s.panel.settings.height
      ∧ s.panel.setState = .valid ∧ s.panel.range ≠ .inRange ∧ s.panel.settings.mask.tempRange = false
      ∧ n.mask.tempRange = true := by decide +kernel

theorem test_witness_ConfigureLightReplacesSettings :
    ∀ f ∈ [((40 : Byte), 500, false), (5, 500, false), (100, 500, false), (40, 1000, true)],
      let s := (placed 0x1000 (lightBytes f.1 f.2.1)).withLight { Light.reset with auto := f.2.2 }
      let n := lightRecord (s.mem.readBytes (opWord atRecord.ops 0).toNat 48)
      offered s .light .configureLight atRecord = true ∧ inHostArea (opWord atRecord.ops 0).toNat 48 = true
        ∧ checkLightRecord (s.mem.readBytes (opWord atRecord.ops 0).toNat 48) = .none
        ∧ s.light.limiting = false ∧ s.light.lost = false ∧ n.ifw = f.1.toNat ∧ n.ifc = s.light.settings.ifc
        ∧ s.light.auto = f.2.2 ∧ (n.points = s.light.settings.points ↔ f.2.1 = 500) := by decide +kernel

theorem test_witness_ConfigureLinkReplacesSettings :
    let s := placed 0x2FFFFF0 linkBytes
    let o := ask [(0, 0x2FFFFF0)]
    offered s .link .configureLink o = true ∧ inHostArea (opWord o.ops 0).toNat 16 = true
      ∧ checkLinkRecord (s.mem.readBytes (opWord o.ops 0).toNat 16) = .none := by decide +kernel

theorem test_witness_ConfigurePowerReplacesSettings :
    ∀ f ∈ [(0, 150, false), (20000, 150, false), (0, 500, true)],
      let s := (placed 0x1000 (powerBytes f.1 f.2.1)).withPower
        { Power.reset 0 with gauge := ⟨0, 0, f.2.2, .none, 0⟩ }
      let n := powerRecord (s.mem.readBytes (opWord atRecord.ops 0).toNat 48)
      offered s .power .configurePower atRecord = true ∧ inHostArea (opWord atRecord.ops 0).toNat 48 = true
        ∧ checkPowerRecord (s.mem.readBytes (opWord atRecord.ops 0).toNat 48) = .none
        ∧ n.capacity = f.1 ∧ n.lowThreshold = f.2.1 ∧ s.power.settings.capacity = 0
        ∧ s.power.settings.lowThreshold = 150 ∧ s.power.gauge.calibrated = f.2.2
        ∧ s.power.batteryLow = false ∧ s.power.gauge.soc < n.lowThreshold := by decide +kernel

/-! ## Waveform sets -/

theorem test_witness_LoadWaveformSetStartsLoading :
    (∀ f ∈ [[(0, 0x1000), (4, 127)], [(0, 0x1000), (4, 4194305)], [(0, 0x3FF), (4, 128)], [(0, 0x1000), (4, 4194304)],
        [(0, 0x1000), (4, 128)]], offered State.reset .panel .loadWaveformSet (ask f) = true)
      ∧ (opWord (ask [(0, 0x1000), (4, 4194305)]).ops 4).toNat = 4194305
      ∧ State.reset.panel.setState.isLoading = false ∧ allLanesFree State.reset.panel = true
      ∧ inHostArea 0x3FF 128 = false ∧ inHostArea 0x1000 4194304 = true
      ∧ offered (ofPanel { Panel.reset with setState := .loading ⟨0x1000, 128, ⟨1, 0x2000, 0, 1⟩, 0⟩ }) .panel
          .loadWaveformSet (ask []) = true := by decide +kernel

/-- A copied set of one band from -40 to 85 degrees, one frame and a burst of 100 mA in every mode. Its CRC was
computed outside the model. -/
def waveSet : Memory :=
  [(0x3800000, 0x44), (0x3800001, 0x33), (0x3800002, 0x22), (0x3800003, 0x11), (0x3800004, 0xCA), (0x3800005, 0x15),
    (0x3800006, 0x49), (0x3800007, 0x1F), (0x3800008, 0x80), (0x3800009, 0x01), (0x380000C, 0x01), (0x380000D, 0xD8),
    (0x380000E, 0x55), (0x380001E, 0x01), (0x380002E, 0x01), (0x380003E, 0x01), (0x380004E, 0x01), (0x380005E, 0x64),
    (0x3800060, 0x64), (0x3800062, 0x64), (0x3800064, 0x64), (0x380008D, 0x9C)]

set_option maxRecDepth 100000 in
/-- R47: the set passes its seven checks, and not for another requested length or with a changed byte. -/
theorem test_wave_checks :
    waveCheck waveSet 384 = 0 ∧ waveCheck waveSet 383 = 1 ∧ waveCheck (waveSet.write 0x3800100 1) 384 = 2 := by
  decide +kernel

/-- R191: the drive codes of present level 3 for targets 4 to 7 in mode SETTLE are the byte 0x9C. -/
theorem test_drive_codes :
    [4, 5, 6, 7].map (driveCode waveSet 0 0 0 3) = [0, 3, 1, 2] := by decide +kernel

/-- A load with its whole copy made. -/
def loadedSet (length : Nat) : State :=
  (ofPanel { Panel.reset with setState := .loading ⟨0x1000, length, ⟨1, 0x2000, 0, 1⟩, length⟩ }).withMem waveSet

set_option maxRecDepth 100000 in
theorem test_witness_WaveformLoadCompletes :
    (loadedSet 384).panel.setState = .loading ⟨0x1000, 384, ⟨1, 0x2000, 0, 1⟩, 384⟩
      ∧ waveCheck ((loadedSet 384).mem.writeBytes (Config.waveBase + 384)
          ((loadedSet 384).mem.readBytes (0x1000 + 384) (384 - 384))) 384 = 0
      ∧ waveCheck ((loadedSet 128).mem.writeBytes (Config.waveBase + 128)
          ((loadedSet 128).mem.readBytes (0x1000 + 128) (128 - 128))) 128 = 1
      ∧ waveTotal waveSet ≠ 128 ∧ waveTotal (waveSet.write 0x3800100 1) = 384
      ∧ (crc32 ((waveSet.write 0x3800100 1).readBytes (Config.waveBase + 8) (384 - 8))).toNat
          ≠ waveCrc (waveSet.write 0x3800100 1) := by decide +kernel

set_option maxRecDepth 100000 in
theorem test_witness_DriveTableLocated :
    ((List.range 3).map fun j =>
        ((List.range (waveBands waveSet)).map fun b => (waveSet.read (0x3800000 + 30 + 16 * j + b)).toNat).sum).sum
        + ((List.range 0).map fun b => (waveSet.read (0x3800000 + 30 + 16 * 3 + b)).toNat).sum + 0 = 3
      ∧ waveCheck waveSet 384 = 0 ∧ 0 < waveBands waveSet ∧ 0 < waveFrames waveSet 3 0
      ∧ 128 + 64 * 3 + 4 * 15 + 15 / 4 < 384 := by decide +kernel

/-! ## The pending queue and the lanes -/

/-- The panel with the copied set in force. -/
def readyPanel : Panel := { Panel.reset with setState := .valid, band := some 0, wholePanel := false }

/-- The part with the copied set in force and a budget. -/
def drawing (p : Panel) (budget : Nat) : State :=
  ((State.reset.withMem waveSet).withPanel p).withPower { Power.reset 0 with budget := budget }

/-- Operands of an Update region: rectangle, image at 0x1000, stride and mode. -/
def region (x y w h stride mode : Nat) : List (Nat × Nat) :=
  [(0, x), (2, y), (4, w), (6, h), (8, 0x1000), (12, stride), (14, mode)]

/-- Each branch of an Update region, at the values where the checks meet. -/
theorem test_witness_UpdateRegionTaken :
    (∀ f ∈ [region 0 0 8 8 4 4, region 1 0 8 8 4 0, region 0 0 7 8 4 0, region 0 0 0 8 4 3, region 0 0 8 8 3 0,
        region 0 0 8 8 4 0, region 1016 760 8 8 4 3],
        offered (drawing readyPanel 800) .panel .updateRegion (ask f) = true)
      ∧ updateRect (ask (region 1016 760 8 8 4 3)).ops = ⟨1016, 760, 8, 8⟩
      ∧ modeOf (opByte (ask (region 1016 760 8 8 4 3)).ops 14).toNat = some .swift
      ∧ (opHalf (ask (region 0 0 8 8 3 0)).ops 12).toNat = 3 ∧ readyPanel.setState ≠ .absent
      ∧ tempRefusal readyPanel = false ∧ inHostArea (0x1000 : Word).toNat ((8 - 1) * 4 + 8 / 2) = true
      ∧ offered State.reset .panel .updateRegion (ask (region 0 0 8 8 4 0)) = true
      ∧ State.reset.panel.setState = .absent := by decide +kernel

/-- The panel with a temperature range refusal in force. -/
def hotPanel : Panel :=
  { readyPanel with range := .outHigh, settings := { PanelSettings.reset with mask := ⟨true, true, true, true⟩ } }

theorem test_witness_UpdateRegionTaken_temperature :
    offered (drawing hotPanel 800) .panel .updateRegion (ask (region 0 0 8 8 4 0)) = true
      ∧ (drawing hotPanel 800).panel.setState ≠ .absent ∧ tempRefusal (drawing hotPanel 800).panel = true := by
  decide +kernel

theorem test_witness_UpdateRegionClipsOrRefuses :
    let strict : Panel := { readyPanel with settings := { PanelSettings.reset with mask := ⟨false, false, true, false⟩ } }
    let off := ask (region 1024 0 8 8 4 0)
    let edge := ask (region 1022 767 8 8 4 0)
    (∀ o ∈ [off, edge], offered (drawing readyPanel 800) .panel .updateRegion o = true
        ∧ offered (drawing strict 800) .panel .updateRegion o = true)
      ∧ updateRect off.ops = ⟨1024, 0, 8, 8⟩ ∧ updateRect edge.ops = ⟨1022, 767, 8, 8⟩
      ∧ modeOf (opByte edge.ops 14).toNat = some .settle ∧ 8 / 2 ≤ (opHalf edge.ops 12).toNat
      ∧ readyPanel.settings.mask.clipped = false ∧ strict.settings.mask.clipped = true
      ∧ readyPanel.settings.width = 1024 ∧ readyPanel.settings.height = 768
      ∧ min 8 (1024 - 1022) = 2 ∧ min 8 (768 - 767) = 1 ∧ strict.setState ≠ .absent ∧ tempRefusal strict = false := by
  decide +kernel

/-- R56, R57: a rectangle that crosses the right and bottom edges joins the queue clipped. -/
theorem test_update_clipped :
    (clipRect PanelSettings.reset ⟨1022, 767, 8, 8⟩) = ⟨1022, 767, 2, 1⟩ := by decide +kernel

/-- Operands of a Cancel update. -/
def cancelling (bundle slot : Nat) : Offer := ask [(0, bundle), (4, slot)]

/-- A part with two entries of chains and one ring entry in the queue, and one update in lane 2. -/
def busyQueue : State :=
  ofPanel { readyPanel with
    queue := [{ entry ⟨0, 0, 8, 8⟩ .settle with origin := .ring 3 none }, entry ⟨8, 0, 8, 8⟩ .settle]
    lanes := Panel.reset.lanes.set 2
      { Lane.free with state := .driving, origin := some (.request ⟨2, 0xA000, 1, 4⟩) } }

theorem test_witness_CancelUpdateWithdrawsEntry :
    (∀ o ∈ [cancelling 0x8000 3, cancelling 0x8000 0, cancelling 0xA000 1, cancelling 0x1000 2],
        offered busyQueue .panel .cancelUpdate o = true)
      ∧ opWord (cancelling 0x8000 0).ops 0 = 0x8000 ∧ (opByte (cancelling 0x8000 3).ops 4).toNat = 3
      ∧ (opByte (cancelling 0x8000 0).ops 4).toNat = (0 : Fin 3).1
      ∧ busyQueue.panel.queue[1]? = some (entry ⟨8, 0, 8, 8⟩ .settle)
      ∧ (entry ⟨8, 0, 8, 8⟩ .settle).origin = .request ⟨3, 0x8000, 0, 5⟩
      ∧ (laneOf busyQueue 2).isFree = false
      ∧ (laneOf busyQueue 2).origin = some (.request ⟨2, 0xA000, 1, 4⟩)
      ∧ (opByte (cancelling 0xA000 1).ops 4).toNat = (1 : Fin 3).1
      ∧ (opByte (cancelling 0x1000 2).ops 4).toNat = (2 : Fin 3).1 := by decide +kernel

theorem test_witness_CancelUpdateWithdrawsEntry_older :
    ∀ j < 1, ∀ (d : Entry) (q : ReqRef), busyQueue.panel.queue[j]? = some d → d.origin = .request q →
      ¬ (q.bundle = 0x8000 ∧ q.slot = 0) := by
  intro j hj d q hd ho
  obtain rfl : j = 0 := by omega
  have hd' : d = { entry ⟨0, 0, 8, 8⟩ .settle with origin := .ring 3 none } := by
    simpa [busyQueue, ofPanel, State.withPanel] using hd.symm
  rw [hd'] at ho
  cases ho

/-- No entry and no lane carries the slot that is cancelled. -/
theorem test_witness_CancelUpdateWithdrawsEntry_absent :
    (∀ e ∈ State.reset.panel.queue, ∀ q, e.origin = .request q → ¬ (q.bundle = 0x1000 ∧ q.slot = 2))
      ∧ ∀ n q, (laneOf State.reset n).isFree = false → (laneOf State.reset n).origin = some (.request q) →
          ¬ (q.bundle = 0x1000 ∧ q.slot = 2) := by
  have hf : ∀ n, (laneOf State.reset n).isFree = true := by decide +kernel
  refine ⟨fun e he => absurd he (List.not_mem_nil), fun n q h => ?_⟩
  rw [hf n] at h
  cases h

/-- The second entry of a queue starts in lane 1: its rectangle touches the first one's and the running lane's
edges without meeting them, and its claim takes the whole budget. -/
def startable : State :=
  drawing { readyPanel with
    queue := [entry ⟨0, 0, 8, 8⟩ .settle, entry ⟨8, 0, 8, 8⟩ .tone]
    lanes := Panel.reset.lanes.set 0 { Lane.free with state := .driving, rect := ⟨16, 0, 8, 8⟩, claim := 100 } } 200

theorem test_witness_EntryStartFillsLane :
    let e := entry ⟨8, 0, 8, 8⟩ .tone
    startable.panel.queue[(1 : Fin 32).1]? = some e ∧ e.hold = .none ∧ e.origin.isSleep = false
      ∧ startable.panel.setState = .valid
      ∧ tempRefusal startable.panel = false ∧ startable.panel.band = some 0
      ∧ (∀ i, (laneOf startable i).isFree = false → e.rect.meets (laneOf startable i).rect = false)
      ∧ (∀ d ∈ startable.panel.queue.take (1 : Fin 32).1, e.rect.meets d.rect = false)
      ∧ (laneOf startable 1).isFree = true ∧ (∀ i, i < (1 : Fin 16) → (laneOf startable i).isFree = false)
      ∧ isUncertain startable.panel e.rect = false
      ∧ committed startable + waveBurst startable.mem e.mode.code ≤ startable.power.budget
      ∧ (laneOf startable 1).claim = 0 := by decide +kernel

/-- The first entry meets the uncertain list, and its claim as SETTLE does not fit. -/
def doubtful : State :=
  drawing { readyPanel with queue := [entry ⟨0, 0, 8, 8⟩ .swift], uncertain := [⟨6, 6, 8, 8⟩] } 99

theorem test_witness_UncertainEntryPromoted :
    let e := entry ⟨0, 0, 8, 8⟩ .swift
    doubtful.panel.queue[(0 : Fin 32).1]? = some e ∧ e.hold = .none ∧ doubtful.panel.setState = .valid
      ∧ tempRefusal doubtful.panel = false
      ∧ (∀ i, (laneOf doubtful i).isFree = false → e.rect.meets (laneOf doubtful i).rect = false)
      ∧ (∀ d ∈ doubtful.panel.queue.take (0 : Fin 32).1, e.rect.meets d.rect = false)
      ∧ (∃ n, (laneOf doubtful n).isFree = true) ∧ e.mode ≠ .settle
      ∧ isUncertain doubtful.panel e.rect = true ∧ doubtful.panel.settings.mask.uncertain = false
      ∧ doubtful.power.budget < committed doubtful + waveBurst doubtful.mem 0 := by decide +kernel

/-- A part with one entry whose budget clock runs, with the BUDGET_WAIT flag as given. -/
def waiting (enabled : Bool) (origin : EntryOrigin) : State :=
  drawing { readyPanel with
    settings := { PanelSettings.reset with mask := ⟨false, false, false, enabled⟩ }
    queue := [{ entry ⟨0, 0, 8, 8⟩ .settle with origin := origin, clock := some 30000, hold := .budget }] } 0

theorem test_witness_BudgetClockExpires :
    ∀ f ∈ [(false, EntryOrigin.ring 1 none), (true, .ring 1 none), (true, .ring 1 (some ⟨1, 0x2000, 2, 7⟩))],
      (waiting f.1 f.2).panel.queue[(0 : Fin 32).1]?
          = some { entry ⟨0, 0, 8, 8⟩ .settle with origin := f.2, clock := some 30000, hold := .budget }
        ∧ (waiting f.1 f.2).panel.settings.budgetLimit ≠ 0 ∧ f.2.isSleep = false
        ∧ (waiting f.1 f.2).panel.settings.mask.budgetWait = f.1 := by decide +kernel

theorem test_witness_PixelLoadingWritesTargetByte : Memory.wf [] = true ∧ 15 < 16 := by decide

/-- R39, R41: a SETTLE pixel of level 9 has the target byte 25, an unmarked TONE pixel of level 0 the byte 0. -/
theorem test_pixel_bytes :
    (loadPixel .settle 1 0 9 ([], 0)).1 = [(0x3400001, 25)] ∧ (loadPixel .settle 1 0 9 ([], 0)).2 = 1
      ∧ loadPixel .tone 1 0 0 ([], 4) = ([], 4) := by decide +kernel

/-- A lane at the end of its loading, with marked pixels or none. -/
def loadedLane (marked : Nat) : Lane :=
  { Lane.free with
    state := .loading, rect := ⟨0, 0, 8, 8⟩, rows := 8, marked := marked, frameCount := 1, claim := 100
    origin := some (.request ⟨1, 0x2000, 2, 7⟩) }

theorem test_witness_LoadingEndsInDriving :
    ∀ m ∈ [0, 64],
      let s := ofPanel { readyPanel with lanes := Panel.reset.lanes.set 15 (loadedLane m) }
      laneOf s 15 = loadedLane m ∧ (loadedLane m).state = .loading ∧ (loadedLane m).rows = (loadedLane m).rect.h
        ∧ (loadedLane m).origin = some (.request ⟨1, 0x2000, 2, 7⟩)
        ∧ (EntryOrigin.request ⟨1, 0x2000, 2, 7⟩).isSleep = false
        ∧ (EntryOrigin.request ⟨1, 0x2000, 2, 7⟩).report = some ⟨1, 0x2000, 2, 7⟩
        ∧ ((loadedLane m).marked = 0 ↔ m = 0) := by decide +kernel

/-- A part with a DRIVING lane and the frame clock running: PANEL_BUSY is true. -/
def framing : State :=
  { ofPanel { readyPanel with
      frameClock := some 20
      lanes := Panel.reset.lanes.set 3 { loadedLane 4 with state := .driving } } with
    conds := ⟨0x00A1, 1, false⟩ }

theorem test_witness_PanelFrameDrivesLanes : framing.panel.frameClock.isSome = true ∧ calm framing = true := by
  decide +kernel

/-- R69: a lane of frame count 1 drives one frame and then enters CLOSING. -/
theorem test_lane_frames :
    ({ loadedLane 4 with state := .driving } : Lane).frame.frameIndex = 1
      ∧ ({ loadedLane 4 with state := .driving } : Lane).frame.frame.state = .closing := by decide

theorem test_witness_CloseWritesPresentPlane :
    Memory.wf waveSet = true ∧ (2040 : Nat) + 8 ≤ 2048 ∧ 2047 + 1 ≤ 2048 := by decide +kernel

theorem test_witness_CloseCompletionFreesLane :
    let l := { loadedLane 4 with state := LaneState.closing }
    let s := ofPanel { readyPanel with lanes := Panel.reset.lanes.set 15 l }
    laneOf s 15 = l ∧ l.state = .closing ∧ l.origin = some (.request ⟨1, 0x2000, 2, 7⟩) := by decide +kernel

/-! ## The turn ring -/

/-- A ring with READY pages in slots 1 and 7, slot 0 current and shown. -/
def stagedRing : Ring :=
  { Ring.reset with
    slots := ((Ring.reset.slots.set 0 ⟨.shown, 0x1000, .settle, 10⟩).set 1 ⟨.ready, 0x1000, .settle, 11⟩).set 7
      ⟨.ready, 0x1000, .tone, 17⟩ }

/-- The part with the ring given, and a queue. -/
def turning (r : Ring) (queue : List Entry) : State :=
  drawing { readyPanel with ring := r, queue := queue } 800

/-- Operands of a Stage page. -/
def staging (slot image mode : Nat) : Offer := ask [(0, slot), (4, image), (8, mode), (12, 99)]

theorem test_witness_StagePagePlacesPage :
    let held := turning { stagedRing with held := some (.slotEmpty .next), current := 3 } []
    (∀ o ∈ [staging 8 0x1000 0, staging 1 0x1000 4, staging 0 0x1000 0, staging 1 0x3FF 0, staging 2 0x1000 3,
        staging 2 (0x3000000 - 768 * 512) 0], offered (turning stagedRing []) .panel .stagePage o = true)
      ∧ (opByte (staging 2 0x1000 3).ops 0).toNat = (2 : Fin 8).1
      ∧ modeOf (opByte (staging 2 0x1000 3).ops 8).toNat = some .swift
      ∧ inHostArea (0x3FF : Word).toNat (768 * (1024 / 2)) = false
      ∧ inHostArea (0x3000000 - 768 * 512) (768 * (1024 / 2)) = true
      ∧ heldOn stagedRing 2 = none
      ∧ offered held .panel .stagePage (staging 4 0x1000 0) = true ∧ heldOn held.panel.ring 4 = some .next := by
  decide +kernel

theorem test_witness_FreeSlotEmptiesTag :
    (∀ n ∈ [8, 0, 7], offered (turning stagedRing []) .panel .freeSlot (ask [(0, n)]) = true)
      ∧ (opByte (ask [(0, 8)]).ops 0).toNat = 8 ∧ (opByte (ask [(0, 7)]).ops 0).toNat = (7 : Fin 8).1
      ∧ stagedRing.current = 0 := by decide +kernel

theorem test_witness_RingResetStartsAfresh :
    (∀ n ∈ [8, 7], offered (turning stagedRing []) .panel .ringReset (ask [(0, n)]) = true)
      ∧ (opByte (ask [(0, 7)]).ops 0).toNat = (7 : Fin 8).1 := by decide +kernel

theorem test_witness_ShowSlotQueuesPage :
    (∀ n ∈ [8, 2, 7], offered (turning stagedRing []) .panel .showSlot (ask [(0, n)]) = true)
      ∧ offered State.reset .panel .showSlot (ask [(0, 7)]) = true ∧ State.reset.panel.setState = .absent
      ∧ offered (drawing hotPanel 800) .panel .showSlot (ask [(0, 7)]) = true
      ∧ (drawing hotPanel 800).panel.setState ≠ .absent ∧ tempRefusal (drawing hotPanel 800).panel = true
      ∧ (turning stagedRing []).panel.setState ≠ .absent ∧ tempRefusal (turning stagedRing []).panel = false
      ∧ stagedRing.slots[(2 : Fin 8)].tag = .empty ∧ stagedRing.slots[(7 : Fin 8)].tag ≠ .empty := by decide +kernel

/-- A held turn of each kind, in direction NEXT. -/
def heldTurns : List HeldTurn :=
  [.slotEmpty .next, .queueFull .next 7 .ready none, .queueFull .next 7 .ready (some ⟨1, 0x2000, 2, 7⟩)]

theorem test_witness_TurnSettledByHeldTurn :
    (∀ h ∈ heldTurns,
        let s := turning { stagedRing with held := some h } []
        offered s .panel .turn (ask [(0, 0)]) = true ∧ offered s .panel .turn (ask [(0, 1)]) = true
          ∧ s.panel.ring.held = some h ∧ h.dir = .next ∧ Dir.next = Dir.prev.flip ∧ s.panel.setState ≠ .absent
          ∧ tempRefusal s.panel = false)
      ∧ opByte (ask [(0, 0)]).ops 0 = BitVec.ofNat 8 Dir.next.code
      ∧ opByte (ask [(0, 1)]).ops 0 = BitVec.ofNat 8 Dir.prev.code
      ∧ offered (turning stagedRing []) .panel .turn (ask [(0, 2)]) = true
      ∧ 1 < (opByte (ask [(0, 2)]).ops 0).toNat
      ∧ offered State.reset .panel .turn (ask []) = true
      ∧ offered (drawing hotPanel 800) .panel .turn (ask []) = true := by decide +kernel

/-- A ring entry as the newest of a queue. -/
def ringTail : Entry := { entry ⟨0, 0, 1024, 768⟩ .settle with origin := .ring 4 (some ⟨1, 0x2000, 2, 7⟩) }

theorem test_witness_TurnReachesTarget :
    (∀ q ∈ [[], List.replicate 31 (entry ⟨0, 0, 8, 8⟩ .settle), List.replicate 32 (entry ⟨0, 0, 8, 8⟩ .settle),
          [entry ⟨0, 0, 8, 8⟩ .settle] ++ [ringTail]],
        let s := turning stagedRing q
        offered s .panel .turn (ask [(0, 1)]) = true ∧ s.panel.setState ≠ .absent ∧ tempRefusal s.panel = false
          ∧ s.panel.ring.held = none ∧ ringStep s.panel.ring.current .prev = 7
          ∧ s.panel.ring.slots[(7 : Fin 8)].tag ≠ .empty)
      ∧ ringTail.origin = .ring 4 (some ⟨1, 0x2000, 2, 7⟩)
      ∧ offered (turning Ring.reset []) .panel .turn (ask [(0, 1)]) = true
      ∧ Ring.reset.slots[(7 : Fin 8)].tag = .empty := by decide +kernel

/-- The newest entry of a queue of chain entries is no ring entry. -/
theorem test_witness_TurnReachesTarget_newest :
    ∀ n ∈ [31, 32], ∀ e, (List.replicate n (entry ⟨0, 0, 8, 8⟩ .settle)).getLast? = some e →
      e.origin.isRing = false := by
  intro n hn e he
  have hm := List.mem_of_getLast? he
  rw [List.eq_of_mem_replicate hm]
  rfl

theorem test_witness_HeldTurnTakesFreedPlace :
    ∀ set ∈ [SetState.valid, .absent],
      let s := ofPanel { readyPanel with
        setState := set
        ring := { stagedRing with current := 7, held := some (.queueFull .prev 0 .ready (some ⟨1, 0x2000, 2, 7⟩)) }
        queue := List.replicate 31 (entry ⟨0, 0, 8, 8⟩ .settle) }
      s.asleep = false ∧ s.panel.ring.held = some (.queueFull .prev 0 .ready (some ⟨1, 0x2000, 2, 7⟩))
        ∧ s.panel.queue.length < 32 ∧ s.panel.ring.current = 7 ∧ s.panel.setState = set := by decide +kernel

/-! ## Front light -/

theorem test_witness_LightMixComputed :
    (∀ f ∈ [(1000, 100), (1000, 0), (0, 50)],
        let l : Light := { Light.reset with
          level := f.1, warmth := f.2, settings := { LightSettings.reset with ifw := 100, ifc := 100 } }
        l.level ≤ 1000 ∧ l.warmth ≤ 100 ∧ l.settings.ifw ≤ 100 ∧ l.settings.ifc ≤ 100
          ∧ drawn l.settings l.mix.dw l.mix.dc ≤ l.mix.il * 4095) := by decide +kernel

/-- Set light with the level, the warmth and the auto flag given. -/
def lighting (level warmth auto : Nat) : Offer := ask [(0, level), (2, warmth), (3, auto)]

theorem test_witness_SetLightTakesLevelAndWarmth :
    (∀ o ∈ [lighting 0 0 2, lighting 1000 100 0, lighting 1001 101 0, lighting 0 30 1],
        offered State.reset .light .setLight o = true)
      ∧ (opHalf (lighting 1001 101 0).ops 0).toNat = 1001 ∧ (opByte (lighting 1001 101 0).ops 2).toNat = 101
      ∧ (opByte (lighting 0 0 2).ops 3).toNat = 2 ∧ (opByte (lighting 0 30 1).ops 3).toNat = 1
      ∧ (opByte (lighting 1000 100 0).ops 3).toNat = 0 := by decide +kernel

/-- A light that asks for 40 mA, with the dark hold or without it. -/
def fullLight (dark : Bool) : Light :=
  { Light.reset with level := 1000, dw := 2047, dc := 2047, il := 40, g := 40, lw := 2047, lc := 2047, pw := 2047
                     pc := 2047, dark := dark }

theorem test_witness_GrantPushLimitsAndCuts :
    (fullLight false).g = 40 ∧ (fullLight false).il ≤ 41 ∧ 39 < (fullLight false).il
      ∧ (fullLight true).dark = true ∧ (39 : Nat) ≠ (fullLight true).g
      ∧ drawn (fullLight false).settings (fullLight false).dw (fullLight false).dc ≤ (fullLight false).il * 4095 := by
  decide

/-- R102, R103: with 10 mA of the 40 asked for, both duties are limited to a quarter and cut at once. -/
theorem test_push_cuts :
    ((fullLight false).push 10).lw = 511 ∧ ((fullLight false).push 10).pw = 511
      ∧ ((fullLight true).push 10).lc = 0 := by decide

/-- A light whose warm channel is above its limited duty and whose cool channel is below, near the grant. -/
def rampingLight : Light :=
  { Light.reset with g := 1, lw := 10, lc := 100, pw := 30, pc := 60, ramp := some 10 }

theorem test_witness_RampStepMovesDuties :
    (ofLight rampingLight).light = rampingLight ∧ rampingLight.ramp.isSome = true
      ∧ (ofLight rampingLight).asleep = false
      ∧ calm { ofLight rampingLight with conds := ⟨0x0061, 1, false⟩ } = true := by decide +kernel

/-- R104, R105: the warm channel is lowered to 10, then the grant of 1 mA leaves room for 32 on the cool one. -/
theorem test_ramp_room :
    (rampStep (ofLight rampingLight)).light.pw = 10 ∧ (rampStep (ofLight rampingLight)).light.pc = 92 := by decide

/-- A table that falls, then rises. -/
def valley : List (Nat × Nat) := [(10, 500), (20, 1), (50, 1000)]

theorem test_witness_AutoLevelFromTable :
    pointsOk valley = true ∧ 2 ≤ valley.length ∧ valley.head? = some (10, 500) ∧ valley.getLast? = some (50, 1000)
      ∧ valley[0]? = some (10, 500) ∧ valley[0 + 1]? = some (20, 1) ∧ valley[1 + 1]? = some (50, 1000)
      ∧ pointsOk LightSettings.reset.points = true := by decide

/-- R107: the level on a falling segment is truncated toward the first point's level, not the second's. -/
theorem test_auto_level_truncates :
    autoLevel valley 11 = 451 ∧ autoLevel valley 20 = 1 ∧ autoLevel valley 21 = 34 ∧ autoLevel valley 9 = 500
      ∧ autoLevel valley 51 = 1000 := by decide

theorem test_witness_AmbientSamplesTaken :
    State.reset.light.sampleClock.isSome = true
      ∧ ∀ lost ∈ [true, false],
          (ofLight { Light.reset with sample := some 0, lost := lost }).light.sample.isSome = true
            ∧ (ofLight { Light.reset with sample := some 0, lost := lost }).light.lost = lost := by decide +kernel

/-! ## Radio link -/

theorem test_witness_RadioOnAsksForClaim :
    (∀ budget ∈ [299, 300],
        offered (ofPower { Power.reset 0 with budget := budget }) .link .radioOn (ask []) = true
          ∧ (ofPower { Power.reset 0 with budget := budget }).link.rail = false
          ∧ (ofPower { Power.reset 0 with budget := budget }).power.budget = budget
          ∧ committed (ofPower { Power.reset 0 with budget := budget }) + 300 = 300)
      ∧ offered (ofLink { Link.reset with rail := true }) .link .radioOn (ask []) = true
      ∧ (ofLink { Link.reset with rail := true }).link.rail = true ∧ State.reset.link.settings.current = 300 := by
  decide +kernel

theorem test_witness_RadioOffReleasesClaim :
    ∀ rail ∈ [false, true],
      let s := (ofLink { Link.reset with rail := rail }).withPower
        { Power.reset 0 with budget := 200, radioClaim := if rail then 300 else 0, shortfall := rail }
      offered s .link .radioOff (ask []) = true ∧ s.link.rail = rail := by decide +kernel

/-- The part with its rail ON, the receiver as given, and bytes in buffer 2. -/
def receiving (state : RxState) (escape : Bool) (bytes : List Byte) : State :=
  ofLink { Link.reset with
    rail := true, receiver := ⟨state, escape, 0x1234⟩, buffers := Link.reset.buffers.set 2 bytes }

theorem test_witness_ReceiverTakesBytes :
    (receiving .hunt false []).link.receiver.state = .hunt
      ∧ (receiving (.discard .size) false []).link.receiver.state = .discard .size
      ∧ (∀ f ∈ [(false, (0xE5 : Byte)), (true, 0xE5), (false, 0xFF), (false, 1), (true, 0x41), (false, 2)],
          let s := receiving (.frame 2) f.1 []
          s.link.rail = true ∧ f.2 ≠ 0xE7 ∧ s.link.receiver.state = .frame 2 ∧ s.link.receiver.escape = f.1
            ∧ s.link.buffers[(2 : Fin 4)] = [] ∧ s.link.settings.filter = true ∧ s.link.settings.station = 1)
      ∧ (0x41 : Byte) ^^^ 0x40 = 1
      ∧ (receiving (.frame 2) false (List.replicate 1033 0)).link.buffers[(2 : Fin 4)].length < 1034 := by
  decide +kernel

theorem test_witness_FrameStartTakesBuffer :
    let full := ofLink { Link.reset with
      rail := true, receiver := ⟨.idle, false, 0⟩, fifo := [0, 3, 1], handling := some 2 }
    let free := ofLink { Link.reset with rail := true, receiver := ⟨.idle, false, 0⟩, fifo := [0], handling := some 1 }
    free.link.rail = true ∧ free.link.receiver.state = .idle ∧ bufState free.link 2 = .free
      ∧ (∀ c, c < (2 : Fin 4) → bufState free.link c ≠ .free)
      ∧ free.link.settings.filter = true ∧ free.link.settings.station = 1 ∧ full.link.rail = true
      ∧ full.link.receiver.state = .idle ∧ (∀ c, bufState full.link c ≠ .free) := by decide +kernel

/-- A frame of station 1 with kind, parcel number 7, block and payload, and its CRC-16. -/
def frameOf (kind : Byte) (block : Nat) (payload : List Byte) : List Byte :=
  let head := [1, kind, 7, 0] ++ leBytes 2 block ++ leBytes 2 payload.length ++ payload
  head ++ leBytes 2 (crc16 head).toNat

/-- The empty CANCEL frame written out byte by byte, with a CRC-16 computed outside the model. -/
def cancelFrame : List Byte := [0x01, 0x03, 0x07, 0x00, 0x00, 0x00, 0x00, 0x00, 0x2E, 0x66]

theorem test_frame_crc : crcReceived cancelFrame = crcComputed cancelFrame := by decide +kernel

theorem test_witness_FramesDroppedWithFault :
    (∀ f ∈ [(true, []), (true, List.replicate 1034 0), (false, List.replicate 1034 0), (false, List.replicate 9 0),
          (false, frameOf 3 0 []), (false, (frameOf 3 0 []).set 9 0)],
        let s := receiving (.frame 2) f.1 f.2
        s.link.rail = true ∧ s.link.receiver.state = .frame 2 ∧ s.link.buffers[(2 : Fin 4)] = f.2
          ∧ s.link.receiver.escape = f.1)
      ∧ 1034 ≤ (List.replicate 1034 (0 : Byte)).length := by decide +kernel

/-- A frame whose length field says one byte more than its payload has, and one whose CRC is wrong. -/
def longField : List Byte :=
  let head : List Byte := [1, 3, 7, 0, 0, 0, 1, 0]
  head ++ leBytes 2 (crc16 head).toNat

theorem test_witness_FramesDroppedWithFault_checks :
    crcReceived longField = crcComputed longField ∧ frameLength longField ≠ longField.length - 10
      ∧ 10 ≤ (cancelFrame.set 9 0).length ∧ crcReceived (cancelFrame.set 9 0) ≠ crcComputed (cancelFrame.set 9 0) := by
  decide +kernel

theorem test_witness_FrameCloseAccepts :
    ∀ h ∈ [none, some (1 : Fin 4)],
      let s := (receiving (.frame 2) false cancelFrame).withLink
        { (receiving (.frame 2) false cancelFrame).link with handling := h }
      s.link.rail = true ∧ s.link.receiver.state = .frame 2 ∧ s.link.receiver.escape = false
        ∧ s.link.buffers[(2 : Fin 4)] = cancelFrame ∧ 10 ≤ cancelFrame.length
        ∧ crcReceived cancelFrame = crcComputed cancelFrame ∧ frameLength cancelFrame = cancelFrame.length - 10
        ∧ s.link.handling = h := by decide +kernel

/-- The part with one HELD frame in buffer 3, and record 5 as given. -/
def held (bytes : List Byte) (p : Parcel) : State :=
  ofLink { Link.reset with
    rail := true, fifo := [3], buffers := Link.reset.buffers.set 3 bytes, parcels := Link.reset.parcels.set 5 p }

theorem test_witness_PlainFramesHandled :
    (∀ bytes ∈ [frameOf 4 0 [1, 101], frameOf 0 0 [], frameOf 5 0 [], frameOf 1 0 [0], frameOf 2 0 [],
          frameOf 3 0 [0], frameOf 4 0 [0]],
        (held bytes Parcel.free).link.handling = none ∧ (held bytes Parcel.free).link.fifo = [3]
          ∧ (held bytes Parcel.free).link.buffers[(3 : Fin 4)] = bytes ∧ writingRecord (held bytes Parcel.free) = none)
      ∧ frameKind (frameOf 4 0 [1, 101]) = 4 ∧ frameLength (frameOf 4 0 [1, 101]) = 2
      ∧ frameKind (frameOf 0 0 []) = 0 ∧ frameKind (frameOf 5 0 []) = 5 ∧ frameLength (frameOf 1 0 [0]) = 1
      ∧ frameKind (frameOf 2 0 []) = 2 ∧ frameLength (frameOf 2 0 []) = 0 := by decide +kernel

/-- An ARMED record for parcel 7 with a capacity of 600 bytes. -/
def armed : Parcel := { Parcel.free with state := .armed, number := 7, buffer := 0x1000, capacity := 600 }

/-- An OPEN frame with a total length, a block size code and a digest. -/
def openFrame (total code digest : Nat) : List Byte := frameOf 1 0 (leBytes 4 total ++ leBytes 1 code ++ leBytes 4 digest)

theorem test_witness_ParcelFramesHandled :
    (∀ f ∈ [(1, 0), (600, 2), (0, 0), (0, 2), (601, 0), (600, 3)],
        let bytes := openFrame f.1 f.2 0
        (held bytes armed).link.fifo = [3] ∧ (held bytes armed).link.buffers[(3 : Fin 4)] = bytes
          ∧ writingRecord (held bytes armed) = none ∧ recordOf (held bytes armed) (frameParcel bytes) = some 5
          ∧ parcelOf (held bytes armed) 5 = armed ∧ frameKind bytes = 1 ∧ frameLength bytes = 9
          ∧ frameField bytes 8 4 = f.1 ∧ frameField bytes 12 1 = f.2)
      ∧ armed.write = none ∧ armed.capacity = 600 ∧ armed.state = .armed := by decide +kernel

/-- A FILLING record of three blocks of 256 bytes, the last of 88, with the block 0 received. -/
def fields : OpenFields := ⟨600, 256, 3, 0, [true, false, false], 1, 2⟩
def filling : Parcel := { armed with state := .filling, fields := some fields, quiet := .running 5 }

theorem test_witness_ParcelFramesHandled_block :
    ∀ f ∈ [(1, 256), (2, 88)],
      let bytes := frameOf 2 f.1 (List.replicate f.2 0xAB)
      (held bytes filling).link.fifo = [3] ∧ writingRecord (held bytes filling) = none
        ∧ recordOf (held bytes filling) (frameParcel bytes) = some 5 ∧ frameKind bytes = 2
        ∧ 1 ≤ frameLength bytes ∧ frameLength bytes ≤ 1024 ∧ filling.fields = some fields
        ∧ frameBlock bytes < fields.count
        ∧ frameLength bytes
            = (if frameBlock bytes + 1 = fields.count then fields.total - (fields.count - 1) * fields.blockSize
              else fields.blockSize)
        ∧ fields.map.getD (frameBlock bytes) false = false := by decide +kernel

theorem test_witness_OutboundFramesSent :
    let f : OutFrame := ⟨.refuse, 7, [1, 0xE7]⟩
    (ofLink { Link.reset with rail := true, outbound := [f] }).link.rail = true
      ∧ (ofLink { Link.reset with rail := true, outbound := [f] }).link.outbound = f :: []
      ∧ (ofLink { Link.reset with rail := true, outbound := [f] }).link.sending = none
      ∧ (ofLink { Link.reset with rail := true, sending := some f }).link.sending = some f := by decide +kernel

/-! ## Parcels -/

/-- The part with the parcel records given in records 5 and 0. -/
def tabled (p0 p5 : Parcel) : State :=
  ofLink { Link.reset with rail := true, parcels := (Link.reset.parcels.set 5 p5).set 0 p0 }

/-- Operands of an Arm parcel for a parcel number, with a buffer and a capacity. -/
def arming (number buffer capacity : Nat) : Offer := ask [(0, number), (4, buffer), (8, capacity)]

theorem test_witness_ArmParcelTakesRecord :
    let s := tabled { armed with number := 8 } armed
    (∀ o ∈ [arming 9 0x1000 0, arming 7 0x1000 1, arming 9 0x1000 1, arming 9 0x3FF 1],
        offered s .link .armParcel o = true)
      ∧ (opWord (arming 9 0x1000 1).ops 8).toNat = 1 ∧ opHalf (arming 7 0x1000 1).ops 0 = 7
      ∧ (∃ r, (parcelOf s r).state ≠ .free ∧ (parcelOf s r).number = 7)
      ∧ (∀ r, (parcelOf s r).state ≠ .free → (parcelOf s r).number ≠ opHalf (arming 9 0x1000 1).ops 0)
      ∧ (parcelOf s 1).state = .free ∧ (∀ q, q < (1 : Fin 8) → (parcelOf s q).state ≠ .free)
      ∧ inHostArea 0x1000 1 = true ∧ inHostArea 0x3FF 1 = false := by decide +kernel

theorem test_witness_ArmParcelTakesRecord_full :
    let s := ofLink { Link.reset with parcels := Vector.replicate 8 armed }
    offered s .link .armParcel (arming 9 0x1000 1) = true ∧ (∀ r, (parcelOf s r).state ≠ .free)
      ∧ ∀ r, (parcelOf s r).number ≠ opHalf (arming 9 0x1000 1).ops 0 := by decide +kernel

theorem test_witness_CancelParcelFailsRecord :
    (∀ p ∈ [armed, filling, { filling with write := some ⟨1, 0⟩ }, { filling with state := .verifying },
          { filling with state := .complete }, { filling with state := .failed }],
        let s := tabled Parcel.free p
        offered s .link .cancelParcel (ask [(0, 7)]) = true ∧ offered s .link .cancelParcel (ask [(0, 6)]) = true
          ∧ (parcelOf s 5).number = opHalf (ask [(0, 7)]).ops 0 ∧ (parcelOf s 5).state = p.state
          ∧ (∀ q, q ≠ 5 → (parcelOf s q).state ≠ .free → (parcelOf s q).number ≠ opHalf (ask [(0, 7)]).ops 0)
          ∧ (∀ q, (parcelOf s q).state ≠ .free → (parcelOf s q).number ≠ opHalf (ask [(0, 6)]).ops 0)) := by
  decide +kernel

theorem test_witness_ReleaseAndReportParcel :
    (∀ p ∈ [armed, { filling with state := .complete }, { filling with state := .failed }],
        let s := tabled Parcel.free p
        offered s .link .releaseParcel (ask [(0, 7)]) = true ∧ offered s .link .releaseParcel (ask [(0, 6)]) = true
          ∧ (∀ n ∈ [8, 5, 7], offered s .link .reportParcel (ask [(0, n)]) = true)
          ∧ (parcelOf s 5).state ≠ .free ∧ (parcelOf s 5).number = opHalf (ask [(0, 7)]).ops 0
          ∧ (∀ q, q ≠ 5 → (parcelOf s q).state ≠ .free → (parcelOf s q).number ≠ opHalf (ask [(0, 7)]).ops 0)
          ∧ (∀ q, (parcelOf s q).state ≠ .free → (parcelOf s q).number ≠ opHalf (ask [(0, 6)]).ops 0))
      ∧ (opByte (ask [(0, 5)]).ops 0).toNat = (5 : Fin 8).1 ∧ 7 < (opByte (ask [(0, 8)]).ops 0).toNat := by
  decide +kernel

/-- A block write of the last block, with the blocks before it received or not. -/
def writing (first : Bool) : State :=
  let p : Parcel := { filling with
    fields := some { fields with map := [first, true, false], received := if first then 2 else 1 }
    write := some ⟨2, 10⟩ }
  let bytes := frameOf 2 2 (List.replicate 88 0xAB)
  ofLink { Link.reset with
    rail := true, handling := some 3, buffers := Link.reset.buffers.set 3 bytes, parcels := Link.reset.parcels.set 5 p }

theorem test_witness_BlockWriteCompletes :
    ∀ first ∈ [true, false],
      let s := writing first
      writingRecord s = some 5 ∧ (parcelOf s 5).state = .filling ∧ (parcelOf s 5).write = some ⟨2, 10⟩
        ∧ (parcelOf s 5).fields = some { fields with map := [first, true, false], received := if first then 2 else 1 }
        ∧ s.link.handling = some 3 ∧ s.link.fifo = [] ∧ s.link.rail = true
        ∧ (framePayload s.link.buffers[(3 : Fin 4)]).length ≤ 1034 := by decide +kernel

theorem test_witness_QuietTimerExpires :
    ∀ gaps ∈ [2, 3],
      let p := { filling with fields := some { fields with gaps := gaps } }
      let s := tabled Parcel.free p
      parcelOf s 5 = p ∧ p.quiet = .running 5 ∧ p.fields = some { fields with gaps := gaps }
        ∧ s.link.settings.gapLimit = 4 := by decide +kernel

/-- A record that verifies the nine digits at 0x1000, of which the pass has read none, with a digest. -/
def verifying (digest : Word) : Parcel :=
  { armed with
    state := .verifying, fields := some ⟨9, 256, 1, digest, [true], 1, 0⟩, verify := some ⟨0, 0xFFFFFFFF⟩ }

def verifyingPart (digest : Word) : State :=
  (tabled Parcel.free (verifying digest)).withMem
    (Memory.writeBytes [] 0x1000 [0x31, 0x32, 0x33, 0x34, 0x35, 0x36, 0x37, 0x38, 0x39])

theorem test_witness_VerifyPassCompletes :
    ∀ digest : Word,
      let s := verifyingPart digest
      parcelOf s 5 = verifying digest ∧ (verifying digest).state = .verifying ∧ (verifying digest).write = none
        ∧ (verifying digest).verify = some ⟨0, 0xFFFFFFFF⟩
        ∧ (verifying digest).fields = some ⟨9, 256, 1, digest, [true], 1, 0⟩ :=
  fun _ => ⟨rfl, rfl, rfl, rfl, rfl⟩

/-- The digest that the record's buffer has; any other fails the pass. -/
theorem test_verify_crc :
    ~~~ crc32Over 0xFFFFFFFF ((verifyingPart 0).mem.readBytes 0x1000 9) = (0xCBF43926 : Word) := by
  decide +kernel

/-! ## Battery, gauge and measurements -/

/-- The part with a capacity and its gauge at empty, at full or in between. -/
def gauged (capacity qr : Nat) (clamp : Clamp) (ib : Int) : State :=
  ofPower { Power.reset 0 with
    settings := { PowerSettings.reset with capacity := capacity }
    gauge := ⟨qr, capacity * 3600000, true, clamp, socOf qr (capacity * 3600000)⟩
    ib := ib }

theorem test_witness_SetChargeSetsGauge :
    (∀ v ∈ [0, 149, 150, 1000, 1001],
        offered (gauged 1000 0 .none 0) .power .setCharge (ask [(0, v)]) = true
          ∧ (opHalf (ask [(0, v)]).ops 0).toNat = v)
      ∧ gaugeSound (gauged 1000 0 .none 0) = true ∧ gaugeSound (gauged 0 0 .none 0) = true
      ∧ offered (gauged 0 0 .none 0) .power .setCharge (ask []) = true
      ∧ (gauged 0 0 .none 0).power.settings.capacity = 0 ∧ (gauged 1000 0 .none 0).power.settings.capacity ≠ 0 := by
  decide +kernel

theorem test_witness_GaugeCharges :
    (gauged 0 0 .none 5).power.gauge.qfull = 0 ∧ (gauged 1 0 .none 5).power.gauge.qfull = 3600000
      ∧ (0 : Int) - 4 * 250 < 0 ∧ (1000 : Int) - 4 * 250 = 0 ∧ (3600000 : Int) - (-4) * 250 > 3600000
      ∧ (∀ c ∈ [Clamp.none, .atEmpty, .atFull], (gauged 1 0 c 4).power.gauge.clamp = c
          ∧ (gauged 1 0 c 4).power.ib = 4 ∧ (gauged 1 0 c 4).power.gauge.qr = 0) := by decide +kernel

/-- R156: at the bounds the result stands, beyond them it is clamped. -/
theorem test_gauge_bounds :
    (chargeGauge 250 (gauged 1 1000 .none 4)).power.gauge.qr = 0
      ∧ (chargeGauge 250 (gauged 1 1000 .none 4)).power.gauge.clamp = .none
      ∧ (chargeGauge 250 (gauged 1 999 .none 4)).power.gauge.clamp = .atEmpty
      ∧ (chargeGauge 250 (gauged 1 3600000 .none (-4))).power.gauge.clamp = .atFull := by decide +kernel

theorem test_witness_MeasurementComputesBudget :
    State.reset.asleep = false ∧ (State.reset.power.settings.vcut : Int) ≤ 3100
      ∧ (3300 : Int) + 0 * State.reset.power.settings.resistance / 1000 ≤ State.reset.power.settings.vfloor
      ∧ ¬ (3301 : Int) + 0 * State.reset.power.settings.resistance / 1000 ≤ State.reset.power.settings.vfloor
      ∧ (State.reset.power.settings.hotLimit : Int) = 55 := by decide +kernel

/-- R160 to R162: 3700 mV at no current gives H = 2000, so Imax sets the budget of 750; a hot battery halves it. -/
theorem test_budget :
    (∃ t, exec (.measurement 3700 0 25 25) State.reset = .next t ∧ t.power.budget = 750)
      ∧ (∃ t, exec (.measurement 3700 0 55 25) State.reset = .next t ∧ t.power.budget = 350)
      ∧ (∃ t, exec (.measurement 3310 0 25 25) State.reset = .next t ∧ t.power.budget = 0) := by
  refine ⟨⟨_, rfl, ?_⟩, ⟨_, rfl, ?_⟩, ⟨_, rfl, ?_⟩⟩ <;> decide +kernel

theorem test_witness_BrownoutEntersSleep :
    (∀ rail ∈ [true, false],
        let s := ofLink { Link.reset with rail := rail }
        s.asleep = false ∧ (3099 : Int) < s.power.settings.vcut ∧ s.link.rail = rail ∧ s.power.radioClaim = 0
          ∧ s.link.fifo = []) := by decide +kernel

theorem test_witness_SleepMeasurementActsOnMark :
    ∀ mark ∈ [true, false], (sleeping mark).asleep = true ∧ (sleeping mark).panel.queue = []
      ∧ (sleeping mark).power.mark = mark ∧ (sleeping mark).power.settings.vcut = 3100 := by decide +kernel

/-! ## Power states and inputs -/

theorem test_witness_DozeEntersDoze :
    ∀ p ∈ [PowerState.run, .doze, .sleepPending],
      offered (ofPower { Power.reset 0 with state := p }) .power .doze (ask []) = true
        ∧ (ofPower { Power.reset 0 with state := p }).power.state = p := by decide +kernel

/-- Operands of a Sleep: image, mode, wake set and timer. -/
def sleepBy (image mode wake timer : Nat) : Offer := ask [(0, image), (4, mode), (5, wake), (6, timer)]

theorem test_witness_SleepBeginsSleepEntry :
    (∀ o ∈ [sleepBy 0 4 0 0, sleepBy 0 3 0x10 0, sleepBy 0 3 0 1, sleepBy 0x3FF 3 0x1F 1, sleepBy 0x1000 3 0x1F 1,
          sleepBy 0 0 0 0],
        offered State.reset .power .sleep o = true ∧ offered (drowsy .draining) .power .sleep o = true)
      ∧ State.reset.power.state ≠ .sleepPending ∧ (drowsy .draining).power.state = .sleepPending
      ∧ 3 < (opByte (sleepBy 0 4 0 0).ops 4).toNat
      ∧ (opByte (sleepBy 0 3 0x10 0).ops 5).getLsbD 4 ≠ (opHalf (sleepBy 0 3 0x10 0).ops 6 != 0)
      ∧ (opByte (sleepBy 0 3 0 1).ops 5).getLsbD 4 ≠ (opHalf (sleepBy 0 3 0 1).ops 6 != 0)
      ∧ modeOf (opByte (sleepBy 0x3FF 3 0x1F 1).ops 4).toNat = some .swift
      ∧ (opByte (sleepBy 0x3FF 3 0x1F 1).ops 5).getLsbD 4 = (opHalf (sleepBy 0x3FF 3 0x1F 1).ops 6 != 0)
      ∧ inHostArea 0x3FF (768 * (1024 / 2)) = false ∧ inHostArea 0x1000 (768 * (1024 / 2)) = true := by decide +kernel

theorem test_witness_DownloadHoldFailsDownloads :
    ∀ p ∈ [filling, armed],
      let s := (tabled Parcel.free p).withPower { Power.reset 0 with
        state := .sleepPending, sleep := { SleepState.reset with step := some .draining, hold := .running 30 } }
      s.power.state = .sleepPending ∧ s.power.sleep.step = some .draining ∧ s.power.sleep.hold = .running 30
        ∧ s.link.fifo = [] ∧ (countIn [.filling] s = 0 ↔ p = armed) := by decide +kernel

/-- A part in sleep entry at a step, with a sleep record. -/
def entering (p : Panel) (image : Word) (wake : BitVec 5) (step : SleepStep) (sleepImage : ImageEntry) : State :=
  (ofPanel p).withPower { Power.reset 0 with
    state := .sleepPending
    sleep := { SleepState.reset with
      record := some ⟨.request ⟨1, 0x2000, 2, 7⟩, image, .tone, wake, 60⟩, step := some step, image := sleepImage } }

theorem test_witness_DrainingEndsInImaging :
    ∀ f ∈ [(Panel.reset, (0 : Word)), (Panel.reset, 0x1000), (readyPanel, 0x3FF), (readyPanel, 0x1000)],
      let s := entering f.1 f.2 0x10 .draining .absent
      s.power.state = .sleepPending ∧ s.power.sleep.step = some .draining ∧ drainingRests s = true
        ∧ s.power.sleep.record = some ⟨.request ⟨1, 0x2000, 2, 7⟩, f.2, .tone, 0x10, 60⟩
        ∧ (s.panel.setState = .absent ↔ f.1 = Panel.reset)
        ∧ (inHostArea f.2.toNat (s.panel.settings.height * (s.panel.settings.width / 2)) = true ↔ f.2 = 0x1000) := by
  decide +kernel

theorem test_witness_DarkeningEndsInSleep :
    (let s := (entering readyPanel 0 0x10 .imaging .over).withLink { Link.reset with rail := true };
      s.power.state = .sleepPending ∧ s.power.sleep.step = some .imaging ∧ s.power.sleep.image = .over
        ∧ s.link.fifo = [] ∧ s.link.rail = true)
      ∧ (∀ wake ∈ [(0x10 : BitVec 5), 0x0F],
          let s := entering readyPanel 0 wake .darkening .over
          s.power.sleep.step = some .darkening ∧ s.light.pw = 0 ∧ s.light.pc = 0
            ∧ s.power.sleep.record = some ⟨.request ⟨1, 0x2000, 2, 7⟩, 0, .tone, wake, 60⟩) := by decide +kernel

theorem test_witness_CancelSleepAbortsSleepEntry :
    offered State.reset .power .cancelSleep (ask []) = true ∧ State.reset.power.state ≠ .sleepPending
      ∧ ∀ st ∈ [SleepStep.draining, .imaging, .darkening],
          offered (entering readyPanel 0 0 st .over) .power .cancelSleep (ask []) = true
            ∧ (entering readyPanel 0 0 st .over).power.state = .sleepPending
            ∧ (entering readyPanel 0 0 st .over).power.sleep.step = some st := by decide +kernel

theorem test_witness_WakeTimerWakesPart :
    let s := ofPower { Power.reset 0 with
      state := .sleep, sleep := { SleepState.reset with wakeTimer := some 1 } }
    s.asleep = true ∧ s.power.sleep.wakeTimer.isSome = true ∧ s.reports = [] ∧ readyReader s = none
      ∧ admitted s = none ∧ turnWaits s = false := by decide +kernel

/-- The input monitor with one debounce timer running, and the raw and debounced levels given. -/
def monitored (i : Input) (raw debounced : BitVec 6) (closed : Bool) : State :=
  ofPower { Power.reset 0 with
    gauge := ⟨0, 3600000, false, .none, 0⟩
    inputs := { Inputs.reset debounced with
      raw := raw, closed := closed
      timers := (Vector.replicate 6 none).set (inputBit i).1 (some 1) (inputBit i).2 } }

theorem test_witness_InputsDebouncedAndLatched :
    ∀ i ∈ [Input.next, .prev, .cover, .charger, .chargeDone, .radioWake],
      State.reset.power.inputs.raw.getLsbD (inputBit i).1 ≠ true
        ∧ (monitored i 0x3F 0x3F false).power.inputs.raw.getLsbD (inputBit i).1 ≠ false
        ∧ (monitored i 0x3F 0x3F false).power.inputs.timers[inputBit i].isSome = true
        ∧ (monitored i 0x3F 0x3F false).power.inputs.raw.getLsbD (inputBit i).1
            = (monitored i 0x3F 0x3F false).power.inputs.debounced.getLsbD (inputBit i).1 := by decide +kernel

theorem test_witness_InputsDebouncedAndLatched_press :
    (∀ i ∈ [Input.next, .prev],
        let m := (monitored i 0x3F 0x3C true).power.inputs
        m.timers[inputBit i].isSome = true ∧ m.raw.getLsbD (inputBit i).1 = true
          ∧ m.debounced.getLsbD (inputBit i).1 = false ∧ (monitored i 0x3F 0x3C true).power.state = .run)
      ∧ (monitored .next 0x3F 0x3C false).power.inputs.closed = false
      ∧ offered State.reset .power .acknowledgeInputs (ask []) = true := by decide +kernel

theorem test_witness_CoverAndChargeInputs :
    (∀ i raw debounced, (monitored i raw debounced true).power.gauge.qfull = 3600000)
      ∧ (∀ i ∈ [Input.cover, .charger, .chargeDone], ∀ up ∈ [true, false],
        let s := monitored i (if up then 0x3F else 0) (if up then 0 else 0x3F) true
        s.power.state = .run ∧ s.power.inputs.closed = true ∧ s.power.inputs.timers[inputBit i].isSome = true
          ∧ s.power.inputs.raw.getLsbD (inputBit i).1 ≠ s.power.inputs.debounced.getLsbD (inputBit i).1
          ∧ s.power.settings.coverSleep = false) := by
  refine ⟨fun _ _ _ => rfl, ?_⟩
  decide +kernel

/-! ## Further clauses: resets and the port -/

/-- A part with `n` uncertain rectangles, lane 2 in DRIVING and lane 3 in LOADING. -/
def unsure (whole : Bool) (n : Nat) : State :=
  ofPanel { readyPanel with
    wholePanel := whole
    uncertain := List.replicate n ⟨0, 0, 2, 2⟩
    lanes := (Panel.reset.lanes.set 2 { loadedLane 4 with state := .driving }).set 3 (loadedLane 4) }

theorem test_witness_PartResetOffersHaltedRectangles :
    (∀ f ∈ [(true, 0), (false, 15), (false, 16)],
        let s := unsure f.1 f.2
        s.panel.settings.width = 1024 ∧ s.panel.settings.height = 768 ∧ s.panel.uncertain.length = f.2
          ∧ s.panel.wholePanel = f.1
          ∧ (((List.finRange 16).filter fun n =>
              (laneOf s n).state = .driving ∨ (laneOf s n).state = .closing).map fun n => (laneOf s n).rect)
            = [⟨0, 0, 8, 8⟩])
      ∧ ∀ whole n, ∃ t, exec .resetPin (unsure whole n) = .next t :=
  ⟨by decide +kernel, fun _ _ => ⟨_, rfl⟩⟩

/-- A part with a held turn that waits for a place and reports to the request `o`. -/
def turnHeld (o : ReqRef) : State :=
  ofPanel { readyPanel with ring := { stagedRing with current := 1, held := some (.queueFull .next 0 .ready (some o)) } }

theorem test_witness_PartResetFailsStoppedWork :
    let o : ReqRef := ⟨1, 0x2000, 2, 7⟩
    let l := { loadedLane 4 with state := LaneState.driving }
    let a := ofPanel { readyPanel with lanes := Panel.reset.lanes.set 15 l }
    let e := { entry ⟨0, 0, 8, 8⟩ .swift with origin := EntryOrigin.ring 1 (some o) }
    let b := ofPanel { readyPanel with queue := [e] }
    let c := ofPanel { Panel.reset with setState := .loading ⟨0x1000, 384, o, 3⟩ }
    let d := entering readyPanel 0 0 .draining .absent
    let h := turnHeld o
    0x400 ≤ o.bundle.toNat
      ∧ (∀ s ∈ [a, b, c, d, h], memoryCanonical s = true)
      ∧ noLoadOrHeldTurn a = true ∧ a.power.state ≠ .sleepPending ∧ a.panel.queue = [] ∧ laneOf a 15 = l
      ∧ l.isFree = false ∧ (∀ m, m ≠ 15 → (laneOf a m).isFree = true) ∧ l.origin = some (.request o)
      ∧ noLoadOrHeldTurn b = true ∧ b.power.state ≠ .sleepPending ∧ allLanesFree b.panel = true
      ∧ b.panel.queue = [e] ∧ e.origin.isSleep = false ∧ e.origin.report = some o
      ∧ c.panel.setState = .loading ⟨0x1000, 384, o, 3⟩ ∧ turnWaits c = false ∧ c.power.state ≠ .sleepPending
      ∧ allLanesFree c.panel = true ∧ c.panel.queue = []
      ∧ noLoadOrHeldTurn d = true ∧ allLanesFree d.panel = true ∧ d.panel.queue = []
      ∧ d.power.state = .sleepPending ∧ sleepRef d = some o
      ∧ h.panel.ring.held = some (.queueFull .next 0 .ready (some o)) ∧ h.panel.setState.isLoading = false
      ∧ h.power.state ≠ .sleepPending ∧ allLanesFree h.panel = true ∧ h.panel.queue = [] := by decide +kernel

theorem test_witness_PageBytesAreMemory :
    (0x03F : Nat) + 0 < 0x040 ∧ 0x3FC ≤ (0x3FB : Nat) + 1 ∧ State.reset.port.resetting = false
      ∧ State.reset.asleep = false ∧ calm State.reset = true := by decide +kernel

theorem test_witness_StatusBlock :
    State.reset.held = none ∧ (0x3FB : Nat) < 0x3FC ∧ (sleeping false).asleep = true ∧ (sleeping false).held = none
      ∧ ((sleeping false).withHeld (some [1])).asleep = true ∧ ((sleeping false).withHeld (some [1])).held = some [1]
      ∧ State.reset.asleep = false := by decide +kernel

/-- A part in a reset with accesses held by the port, and chain reader 2 in AWAIT_LINK. -/
def holdingAccesses (accesses : List Access) : State :=
  { holding with port := ⟨true, accesses, []⟩, notices := 0x012 }

/-- R3: a write that ends at the byte before a watched link word, and the accesses after it. -/
theorem test_witness_ResetEndServesInOrder :
    let s := holdingAccesses [.write 0xFFE [1, 2], .noticeRead, .read 0xFFF 2, .resetRead, .noticeWrite 5]
    quiet s = true ∧ synced s = true ∧ memoryCanonical s = true ∧ s.port.resetting = true ∧ s.power.state = .run
      ∧ watched s 0xFFE 2 = [] ∧ watched s 0xFFF 2 = [(2, .link)] := by decide +kernel

theorem test_witness_ResetEndServesInOrder_writes :
    ∀ a d, Access.write a d ∈ (holdingAccesses [.read 0xFFF 2, .write 0xFFE [1, 2]]).port.waiting →
      watched (holdingAccesses [.read 0xFFF 2, .write 0xFFE [1, 2]]) a.toNat d.length = [] := by
  intro a d h
  simp only [holdingAccesses, List.mem_cons, reduceCtorEq, Access.write.injEq, List.not_mem_nil, or_false,
    false_or] at h
  obtain ⟨rfl, rfl⟩ := h
  decide +kernel

theorem test_witness_HeldHeadWriteStartsReader :
    let s := holdingAccesses [.write (BitVec.ofNat 32 (4 * (3 : Fin 4).1)) (leBytes 4 (0x10A0 : Word).toNat)]
    quiet s = true ∧ synced s = true ∧ memoryCanonical s = true ∧ readersSound s ∧ s.port.resetting = true
      ∧ (readerOf s 3).headArmed = true ∧ checkBundle s 0x10A0 = .none := by
  unfold readersSound
  decide +kernel

/-- A sleeping part with a wake timer and a report of a write to head word 0, which holds an address. -/
def reported (state : ReaderState) : State :=
  let s := ofPower { Power.reset 0 with
    state := .sleep, sleep := { SleepState.reset with wakeTimer := some 1 } }
  (((s.withMem (Memory.writeBytes [] 0 (leBytes 4 0x400))).withReader 0
    { Reader.reset with
      state := state, current := if state = .reading then some ⟨0x1000, 0, false, Vector.replicate 3 .pending⟩ else none
    }).withReports [(0, .head)])

theorem test_witness_WakeTakesReports :
    (∀ st ∈ [ReaderState.stopped, .reading],
        let s := reported st
        s.asleep = true ∧ s.power.sleep.wakeTimer.isSome = true ∧ s.reports = [(0, .head)] ∧ readyReader s = none
          ∧ admitted s = none ∧ turnWaits s = false ∧ ((readerOf s 0).headArmed = true ↔ st = .stopped))
      ∧ headWord (reported .stopped) 0 = 0x400 ∧ checkBundle (reported .stopped) 0x400 = .none
      ∧ (readerOf (reported .stopped) 0).current = none := by decide +kernel

theorem test_witness_HostWriteInSleep :
    memoryCanonical (sleeping false) = true ∧ memoryCanonical (sleeping true) = true
      ∧ ([1, 2] : List Byte) ≠ [] ∧ (0x3FFFFFE : Word).toNat + ([1, 2] : List Byte).length ≤ Config.pageMemorySize
      ∧ watched (sleeping false) 0xF 1 = [(3, .head)] ∧ watched (sleeping false) 0x10 1 = [] := by decide +kernel

/-! ## Further clauses: the readers -/

theorem test_witness_BundleReadTakesFetched :
    let c : Contents := ⟨9, true, Vector.replicate 3 .empty⟩
    let s := (atBundle .reading .none 0 (Vector.replicate 3 .empty) (Vector.replicate 3 .pending) []).withReader 1
      { Reader.reset with
        state := .reading, fetched := some c, current := some ⟨0x1000, 0, false, Vector.replicate 3 .pending⟩ }
    s.asleep = false ∧ (readerOf s 1).state = .reading
      ∧ (readerOf s 1).current = some ⟨0x1000, 0, false, Vector.replicate 3 .pending⟩
      ∧ (readerOf s 1).fetched = some c := by decide +kernel

/-- A declined slot behind a barrier: the queue is full. -/
theorem test_witness_BarrierReleaseHandsSlotOver_declined :
    let s := (atBundle .handing .barrier 0 #v[⟨1, true, 0, 3, 0⟩, .empty, .empty] (Vector.replicate 3 .pending) []).withPanel
      crowded.panel
    s.asleep = false ∧ (readerOf s 1).state = .handing ∧ (readerOf s 1).hold = .barrier ∧ (readerOf s 1).next = 0
      ∧ (readerOf s 1).openList = []
      ∧ (handOver ((readerOf s 1).slots[(0 : Fin 3)]) ⟨1, 0x1000, 0, 7⟩ (beginEvent s)).isNone = true := by
  decide +kernel

theorem test_witness_LeavingFinalBundleRetiresIt :
    let b : Bundle := ⟨0x1000, 7, false, Vector.replicate 3 .done⟩
    ∀ link ∈ [0x1000, 0x1001, 0x4000],
      let s := waitingToLeave 32 link (Vector.replicate 3 .done)
      s.asleep = false ∧ (readerOf s 1).state = .handing ∧ (readerOf s 1).current = some b
        ∧ (readerOf s 1).hold = .listRoom ∧ (readerOf s 1).next = 3 ∧ linkWord s b ≠ 0 ∧ b.allFinal = true
        ∧ (checkBundle (s.withReader 1 { readerOf s 1 with current := none }) (linkWord s b) = .none
            ↔ link ≠ 0x1001) := by decide +kernel

theorem test_witness_BadLinkStopsReader :
    let c : Bundle := ⟨0x1000, 7, false, Vector.replicate 3 .queued⟩
    ∀ f ∈ [(0x1000, ChainCause.inUse), (0x1001, .misaligned), (0x3E0, .anchor)],
      let s := waitingToLeave 31 f.1 (Vector.replicate 3 .queued)
      s.asleep = false ∧ (readerOf s 1).state = .handing ∧ (readerOf s 1).current = some c
        ∧ (readerOf s 1).hold = .listRoom ∧ (readerOf s 1).next = 3 ∧ linkWord s c ≠ 0 ∧ c.allFinal = false
        ∧ (readerOf s 1).openList.length < 32 ∧ f.2 = checkBundle s (linkWord s c) := by decide +kernel

/-- Reader 2 in AWAIT_LINK at 0x1000, its bundle final or not; conditions as they stand. -/
def awaitingLink (outcomes : Vector OutcomeState 3) : State :=
  State.reset.withReader 2
    { Reader.reset with state := .awaitLink, next := 3, current := some ⟨0x1000, 1, true, outcomes⟩ }

theorem test_witness_LinkWriteMovesWaitingReader :
    ∀ outcomes ∈ [(#v[.done, .refused, .skipped] : Vector OutcomeState 3), #v[.done, .pending, .done]],
      let s := awaitingLink outcomes
      calm s = true ∧ memoryCanonical s = true ∧ readersSound s ∧ (readerOf s 2).state = .awaitLink
        ∧ (readerOf s 2).current = some ⟨0x1000, 1, true, outcomes⟩
        ∧ checkBundle s 0x10A0 = .none ∧ checkBundle s 0x1000 = .inUse
        ∧ checkBundle (s.withReader 2 { readerOf s 2 with current := none }) 0x1000 = .none := by
  unfold readersSound
  decide +kernel

theorem test_witness_LastFinalOutcomeRetiresOpenBundle :
    let b : Bundle := ⟨0x2000, 7, false, #v[.done, .started, .skipped]⟩
    let before : List Bundle := [⟨0x3000, 7, false, Vector.replicate 3 .queued⟩]
    let after : List Bundle := [⟨0x4000, 7, false, Vector.replicate 3 .pending⟩]
    let s := atBundle .reading .none 0 (Vector.replicate 3 .empty) (Vector.replicate 3 .pending) (before ++ b :: after)
    let o : ReqRef := ⟨1, 0x2000, 1, 7⟩
    (readerOf s o.chain).openList = before ++ b :: after ∧ b.addr = o.bundle
      ∧ (∀ d ∈ before ++ after, d.addr ≠ o.bundle ∧ d.allFinal = false)
      ∧ (readerOf s o.chain).current = some ⟨0x1000, 7, false, Vector.replicate 3 .pending⟩
      ∧ (0x1000 : Word) ≠ o.bundle ∧ (b.outcomes[o.slot]).final = false
      ∧ (∀ i : Fin 3, i ≠ o.slot → (b.outcomes[i]).final = true) ∧ OutcomeState.done.final = true := by decide +kernel

/-- A Radio on that its reader, which holds no other bundle, hands over. -/
theorem test_witness_PlainRequestOfReader :
    let x : Slot := ⟨3, false, 0, 2, 0⟩
    let s := atBundle .handing .none 0 #v[x, .empty, .empty] (Vector.replicate 3 .pending)
      [⟨0x2000, 7, false, Vector.replicate 3 .queued⟩]
    let o : ReqRef := ⟨1, 0x1000, 0, 7⟩
    synced s = true ∧ x.engine = engineField .link ∧ codeClass .link x.code = .defined .radioOn
      ∧ plainRequest .radioOn = true
      ∧ (readerOf s o.chain).current = some ⟨0x1000, 7, false, Vector.replicate 3 .pending⟩
      ∧ (∀ d ∈ (readerOf s o.chain).openList, d.addr ≠ o.bundle ∧ d.allFinal = false)
      ∧ (handOver x o s).isSome = true := by decide +kernel

theorem test_witness_NonmaskableOccurrenceReplacesPost :
    FaultKind.brownout.engine = .power ∧ FaultKind.waveformBad.engine = .panel ∧ Engine.light ≠ FaultKind.brownout.engine
      ∧ (∀ p ∈ [PowerState.run, .doze], (ofPower { Power.reset 0 with state := p }).power.state = p)
      ∧ FaultKind.digest ≠ .waveformBad ∧ FaultKind.digest ≠ .brownout := by decide

/-! ## Further clauses: the panel -/

/-- The set with one byte changed and its CRC set right again. -/
def resealed (a : Nat) (b : Byte) : Memory :=
  let m := waveSet.write a b
  m.writeBytes 0x3800004 (leBytes 4 (crc32 (m.readBytes 0x3800008 376)).toNat)

set_option maxRecDepth 100000 in
/-- R47: band count, bounds, frame counts, burst currents and total length fail checks 3 to 7. -/
theorem test_wave_checks_rest :
    waveCheck (resealed 0x380000C 17) 384 = 3 ∧ waveCheck (resealed 0x380000D 0x80) 384 = 4
      ∧ waveCheck (resealed 0x380001E 0) 384 = 5 ∧ waveCheck (resealed 0x380005F 2) 384 = 6
      ∧ waveCheck (resealed 0x380001E 2) 384 = 7 := by decide +kernel

theorem test_witness_LoadCompletionSettlesSet_entry :
    (loadedSet 384).panel.queue = []
      ∧ (entry ⟨0, 0, 8, 8⟩ .tone).origin.isSleep = false
      ∧ ((loadedSet 128).withQueue [entry ⟨0, 0, 8, 8⟩ .tone]).panel.queue = [entry ⟨0, 0, 8, 8⟩ .tone] := by
  decide +kernel

theorem test_witness_HeldEntryWaitsForScan :
    startable.panel.queue[(0 : Fin 32).1]? = some (entry ⟨0, 0, 8, 8⟩ .settle)
      ∧ ∀ h ∈ [EntryHold.set, .lane, .older, .noLane, .budget],
          h ≠ .none ∧ (startable.withQueue [{ entry ⟨0, 0, 8, 8⟩ .settle with hold := h }]).panel.queue[(0 : Fin 32).1]?
            = some { entry ⟨0, 0, 8, 8⟩ .settle with hold := h } := by decide +kernel

/-- The scan's cases: an entry that meets lane 0, one that meets the older one, one with no FREE lane, one whose claim
does not fit, and uncertain ones with a request and without. -/
def scanned (rect : Rect) (mode : Mode) (budget : Nat) (full : Bool) (origin : EntryOrigin) : State :=
  let lane := { Lane.free with state := LaneState.driving, rect := ⟨16, 0, 8, 8⟩, claim := 100 }
  drawing { readyPanel with
    settings := { PanelSettings.reset with mask := ⟨false, true, false, false⟩ }
    uncertain := [⟨40, 0, 8, 8⟩]
    queue := [entry ⟨0, 0, 8, 8⟩ .settle, { entry rect mode with origin := origin }]
    lanes := if full then Vector.replicate 16 lane else Panel.reset.lanes.set 0 lane } budget

theorem test_witness_ScanHoldsOrFailsEntry :
    let r : EntryOrigin := .request ⟨1, 0x2000, 2, 7⟩
    let lane (s : State) (e : Entry) := (List.finRange 16).any fun n =>
      !(laneOf s n).isFree && e.rect.meets (laneOf s n).rect
    let older (s : State) (e : Entry) := (s.panel.queue.take 1).any fun d => e.rect.meets d.rect
    let free (s : State) := (List.finRange 16).any fun n => (laneOf s n).isFree
    (∀ f ∈ [((⟨22, 0, 8, 8⟩ : Rect), Mode.settle, 800, false, r, [true, false, true]),
        (⟨6, 6, 8, 8⟩, .settle, 800, false, r, [false, true, true]),
        (⟨8, 0, 8, 8⟩, .settle, 800, true, r, [false, false, false]),
        (⟨8, 0, 8, 8⟩, .tone, 199, false, r, [false, false, true]),
        (⟨46, 0, 8, 8⟩, .tone, 800, false, r, [false, false, true]),
        (⟨46, 0, 8, 8⟩, .tone, 800, false, .ring 1 none, [false, false, true])],
      let s := scanned f.1 f.2.1 f.2.2.1 f.2.2.2.1 f.2.2.2.2.1
      let e := { entry f.1 f.2.1 with origin := f.2.2.2.2.1 }
      s.panel.queue[1]? = some e ∧ [lane s e, older s e, free s] = f.2.2.2.2.2 ∧ e.origin.isSleep = false
        ∧ (isUncertain s.panel e.rect = true ↔ f.1 = ⟨46, 0, 8, 8⟩) ∧ s.panel.settings.mask.uncertain = true
        ∧ (s.power.budget < committed s + waveBurst s.mem e.mode.code ↔ f.2.2.1 = 199 ∨ f.2.2.2.1 = true)) := by
  decide +kernel

theorem test_witness_ScanExaminesOldestFirst :
    State.reset.panel.setState ≠ .valid ∧ tempRefusal (drawing hotPanel 800).panel = true
      ∧ startable.panel.setState = .valid ∧ tempRefusal startable.panel = false
      ∧ (let d := entry ⟨0, 0, 8, 8⟩ .settle; let e := entry ⟨8, 0, 8, 8⟩ .tone
        startable.panel.queue = [d, e] ∧ (examineEntry 0 d startable).2 = true
          ∧ (examineEntry 0 d startable).1.panel.queue = [e]
          ∧ (examineEntry 0 d (startable.withPower { startable.power with budget := 199 })).2 = false
          ∧ (examineEntry 0 d (startable.withPower { startable.power with budget := 199 })).1.panel.queue[1]?
              = some e) := by decide +kernel

theorem test_witness_RowLoadingReadsImageRow :
    let l := { loadedLane 0 with rect := ⟨2040, 2047, 8, 8⟩, image := 0x2FFFFFC, stride := 4 }
    Memory.wf waveSet = true ∧ l.rect.w % 2 = 0 ∧ l.rect.x + l.rect.w ≤ 2048 ∧ l.rect.y + 0 < 2048
      ∧ l.image.toNat + 0 * l.stride + l.rect.w / 2 ≤ 0x3000000 := by decide +kernel

theorem test_witness_LoadingReadsRowsInOrder :
    ∀ rows ∈ [7, 8],
      let l := { loadedLane 0 with rows := rows }
      let s := ofPanel { readyPanel with lanes := Panel.reset.lanes.set 15 l }
      laneOf s 15 = l ∧ (l.rows < l.rect.h ↔ rows = 7) ∧ l.rows ≤ l.rect.h ∧ l.state = .loading ∧ s.pending = []
        ∧ (∀ i, i ≠ 15 → (laneOf s i).state ≠ .loading) ∧ s.panel.setState.isLoading = false
        ∧ writingRecord s = none := by decide +kernel

/-! ## Further clauses: the link -/

/-- OPEN frames that repeat and that change the fields of the record, and one for no record. -/
theorem test_witness_OpenOfOtherRecords :
    (∀ st ∈ [ParcelState.filling, .verifying, .complete, .failed],
      ∀ f ∈ [(600, 0), (601, 0), (512, 1), (600, 3)],
        let bytes := openFrame f.1 f.2 0
        let p := { filling with state := st }
        let s := held bytes p
        s.link.handling = none ∧ s.link.fifo = [3] ∧ s.link.buffers[(3 : Fin 4)] = bytes ∧ writingRecord s = none
          ∧ frameKind bytes = 1 ∧ frameLength bytes = 9 ∧ recordOf s (frameParcel bytes) = some 5
          ∧ parcelOf s 5 = p ∧ p.fields = some fields ∧ frameField bytes 8 4 = f.1 ∧ frameField bytes 12 1 = f.2
          ∧ BitVec.ofNat 32 (frameField bytes 13 4) = fields.digest
          ∧ ((fields.total = f.1 ∧ fields.blockSize = 256 * 2 ^ f.2) ↔ f = (600, 0)))
      ∧ 512 ≤ filling.capacity ∧ 601 > filling.capacity ∧ 2 < 3
      ∧ recordOf (held (openFrame 600 0 0) Parcel.free) (frameParcel (openFrame 600 0 0)) = none := by decide +kernel

set_option maxRecDepth 100000 in
theorem test_witness_BlockDiscarded :
    (∀ st ∈ [ParcelState.armed, .filling, .verifying, .complete, .failed],
      ∀ f ∈ [(0, 256), (2, 89), (3, 88)],
        let bytes := frameOf 2 f.1 (List.replicate f.2 0xAB)
        let p := { filling with state := st }
        let s := held bytes p
        s.link.handling = none ∧ s.link.fifo = [3] ∧ s.link.buffers[(3 : Fin 4)] = bytes ∧ writingRecord s = none
          ∧ frameKind bytes = 2 ∧ frameBlock bytes = f.1 ∧ frameLength bytes = f.2
          ∧ recordOf s (frameParcel bytes) = some 5 ∧ parcelOf s 5 = p ∧ p.fields = some fields)
      ∧ fields.count = 3 ∧ fields.total - (fields.count - 1) * fields.blockSize = 88 ∧ fields.blockSize = 256
      ∧ fields.map.getD 0 false = true
      ∧ recordOf (held (frameOf 2 0 [1]) Parcel.free) (frameParcel (frameOf 2 0 [1])) = none := by decide +kernel

theorem test_witness_AbandonFailsRecord :
    (∀ st ∈ [ParcelState.armed, .filling, .verifying, .complete, .failed],
        let bytes := frameOf 3 0 []
        let s := held bytes { filling with state := st }
        s.link.handling = none ∧ s.link.fifo = [3] ∧ s.link.buffers[(3 : Fin 4)] = bytes ∧ writingRecord s = none
          ∧ frameKind bytes = 3 ∧ frameLength bytes = 0 ∧ recordOf s (frameParcel bytes) = some 5
          ∧ (parcelOf s 5).state = st)
      ∧ recordOf (held (frameOf 3 0 []) Parcel.free) (frameParcel (frameOf 3 0 [])) = none := by decide +kernel

/-! ## Further clauses: measurements -/

/-- R152: readings one beyond each end of their ranges are taken as the ends. -/
theorem test_readings_clamped :
    max 0 (min (-1 : Int) 5000) = 0 ∧ max 0 (min (5001 : Int) 5000) = 5000
      ∧ max (-4000) (min (-4001 : Int) 4000) = -4000 ∧ max (-40) (min (86 : Int) 85) = 85 := by decide

set_option maxRecDepth 100000 in
/-- R50: the copied set has one band; a temperature on each side of its bounds. -/
theorem test_witness_TemperatureMovesBand :
    (drawing readyPanel 800).panel.setState = .valid ∧ (drawing readyPanel 800).panel.band = some 0
      ∧ waveBands (drawing readyPanel 800).mem = 1 ∧ 1 ≤ waveBands waveSet
      ∧ waveBound waveSet 0 < waveBound waveSet 1 ∧ State.reset.panel.setState ≠ .valid := by decide +kernel

theorem test_witness_MeasurementBringsTemperature :
    State.reset.asleep = false ∧ (State.reset.power.settings.vcut : Int) ≤ max 0 (min 3100 5000)
      ∧ (-40 : Int) ≤ -40 ∧ (-40 : Int) ≤ 85 := by decide +kernel

theorem test_witness_EmptyCorrectionAtMeasurement :
    let s := gauged 1000 1000 .none 0
    s.asleep = false ∧ (s.power.settings.vcut : Int) ≤ 3349 ∧ (3349 : Int) < s.power.settings.vempty
      ∧ (-50 : Int) < -49 ∧ (49 : Int) < 50 ∧ s.power.gauge.qfull ≠ 0 := by decide +kernel

/-! ## Further clauses: sleep, wake and inputs -/

/-- A part in sleep entry with its image entry in the queue or in lane 0, in a given state. -/
def imaging (image : ImageEntry) (p : Panel) : State :=
  let s := drawing p 800
  s.withPower { s.power with
    state := .sleepPending
    sleep := { SleepState.reset with
      record := some ⟨.request ⟨1, 0x2000, 2, 7⟩, 0x1000, .tone, 0, 0⟩, step := some .imaging, image := image
      started := image == .inLane 0 } }

/-- The sleep image entry of the whole panel, as it joins the queue. -/
def imageEntry : Entry := { entry ⟨0, 0, 1024, 768⟩ .tone with origin := .sleep (some ⟨1, 0x2000, 2, 7⟩) }

theorem test_witness_SleepImageDrawn :
    let q := imaging .queued { readyPanel with queue := [imageEntry] }
    q.panel.queue[(0 : Fin 32).1]? = some imageEntry ∧ imageEntry.hold = .none
      ∧ imageEntry.origin = .sleep (some ⟨1, 0x2000, 2, 7⟩) ∧ q.power.sleep.image = .queued
      ∧ q.panel.setState = .valid ∧ tempRefusal q.panel = false ∧ q.panel.band = some 0
      ∧ (∀ i, (laneOf q i).isFree = true) ∧ isUncertain q.panel imageEntry.rect = false
      ∧ committed q + waveBurst q.mem imageEntry.mode.code ≤ q.power.budget
      ∧ ∀ st ∈ [LaneState.loading, .closing],
          let l := { loadedLane 4 with state := st, origin := some (.sleep (some ⟨1, 0x2000, 2, 7⟩)) }
          let s := imaging (.inLane 0) { readyPanel with lanes := Panel.reset.lanes.set 0 l }
          laneOf s 0 = l ∧ l.state = st ∧ l.rows = l.rect.h ∧ l.marked ≠ 0
            ∧ l.origin = some (.sleep (some ⟨1, 0x2000, 2, 7⟩)) ∧ s.power.sleep.image = .inLane 0
            ∧ s.power.sleep.started = true ∧ s.panel.queue = [] := by decide +kernel

theorem test_witness_SleepImageFailureEndsEntry :
    let e := { imageEntry with clock := some 30000, hold := EntryHold.budget }
    let s := imaging .queued { readyPanel with
      settings := { PanelSettings.reset with mask := ⟨false, false, false, true⟩ }, queue := [e] }
    s.power.state = .sleepPending ∧ s.power.sleep.image = .queued ∧ s.panel.queue[(0 : Fin 32).1]? = some e
      ∧ e.clock = some 30000 ∧ s.panel.settings.budgetLimit ≠ 0 ∧ s.panel.settings.mask.budgetWait = true
      ∧ e.origin = .sleep (sleepRef s) := by decide +kernel

theorem test_witness_CompletedEntryKeepsImageFlag :
    let s := entering readyPanel 0 0 .darkening .over
    s.power.state = .sleepPending ∧ s.power.sleep.step = some .darkening ∧ s.light.pw = 0 ∧ s.light.pc = 0
      ∧ s.power.returnState ≠ .sleepPending := by decide +kernel

/-- A part in a power state with the input `i` changed to the raw level given, its timer about to expire. -/
def changing (state : PowerState) (sleep : SleepState) (settings : PowerSettings) (mark : Bool) (i : Input)
    (up closed : Bool) : State :=
  let s := monitored i (if up then 0x3F else 0) (if up then 0 else 0x3F) closed
  s.withPower { s.power with state := state, sleep := sleep, settings := settings, mark := mark }

/-- A sleep record with an origin and a wake set. -/
def sleepOf (origin : SleepOrigin) (wake : BitVec 5) (step : Option SleepStep) : SleepState :=
  { SleepState.reset with record := some ⟨origin, 0, .tone, wake, 0⟩, step := step }

theorem test_witness_InputsAbortSleepEntry :
    ∀ f ∈ [(Input.next, true, SleepOrigin.request ⟨1, 0x2000, 2, 7⟩), (.prev, true, .cover), (.cover, false, .cover),
        (.cover, false, .request ⟨1, 0x2000, 2, 7⟩)],
      let s := changing .sleepPending (sleepOf f.2.2 0 (some .darkening)) PowerSettings.reset false f.1 f.2.1 false
      s.power.state = .sleepPending ∧ s.power.inputs.timers[inputBit f.1].isSome = true
        ∧ s.power.inputs.raw.getLsbD (inputBit f.1).1 = f.2.1
        ∧ s.power.inputs.debounced.getLsbD (inputBit f.1).1 ≠ f.2.1
        ∧ s.power.sleep.record = some ⟨f.2.2, 0, .tone, 0, 0⟩ := by decide +kernel

/-- Cover sleep with no image, with one whose first byte lies below the host area, and with one inside it. -/
theorem test_witness_CoverCloseStartsSleep :
    ∀ st ∈ [PowerState.run, .doze, .sleepPending, .sleep], ∀ image ∈ [0, 0x3FF, 0x400],
      let p := { PowerSettings.reset with coverSleep := true, coverImage := BitVec.ofNat 32 image }
      let s := changing st SleepState.reset p false .cover true true
      s.power.inputs.timers[(2 : Fin 6)].isSome = true ∧ s.power.inputs.raw.getLsbD 2 = true
        ∧ s.power.inputs.debounced.getLsbD 2 = false ∧ s.power.settings.coverSleep = true
        ∧ s.power.settings.downloadHold ≠ 0 ∧ s.power.settings.coverImage.toNat = image ∧ s.power.state = st
        ∧ (inHostArea image (s.panel.settings.height * (s.panel.settings.width / 2)) = true
            ↔ image = 0x400) := by decide +kernel

theorem test_witness_InputsWakeSleepingPart :
    (∀ f ∈ [(Input.next, true, (0x01 : BitVec 5)), (.prev, true, 0x01), (.cover, false, 0x02), (.charger, true, 0x04),
        (.charger, false, 0x04), (.radioWake, true, 0x08)],
      ∀ wake ∈ [f.2.2, ~~~ f.2.2], ∀ mark ∈ [false, true],
        let s := changing .sleep (sleepOf .none wake none) PowerSettings.reset mark f.1 f.2.1 false
        s.asleep = true ∧ s.power.sleep.record = some ⟨.none, 0, .tone, wake, 0⟩
          ∧ s.power.inputs.timers[inputBit f.1].isSome = true
          ∧ s.power.inputs.raw.getLsbD (inputBit f.1).1 = f.2.1
          ∧ s.power.inputs.debounced.getLsbD (inputBit f.1).1 ≠ f.2.1 ∧ s.panel.settings.restoreOnWake = false
          ∧ s.panel.settings.turnOnWake = false ∧ s.reports = [] ∧ readyReader s = none ∧ admitted s = none
          ∧ turnWaits s = false ∧ s.power.mark = mark)
      ∧ (0x01 : BitVec 5).getLsbD 0 = true ∧ (0x02 : BitVec 5).getLsbD 1 = true ∧ (0x04 : BitVec 5).getLsbD 2 = true
      ∧ (0x08 : BitVec 5).getLsbD 3 = true ∧ (~~~ (0x08 : BitVec 5)).getLsbD 3 = false := by decide +kernel

theorem test_witness_ButtonWakeTakesOptions :
    ∀ restore ∈ [true, false], ∀ turn ∈ [true, false],
      let s := (changing .sleep (sleepOf .none 1 none) PowerSettings.reset false .next true false).withPanel
        { readyPanel with
          ring := stagedRing
          settings := { PanelSettings.reset with restoreOnWake := restore, turnOnWake := turn } }
      s.asleep = true ∧ s.power.mark = false ∧ s.power.sleep.record = some ⟨.none, 0, .tone, 1, 0⟩
        ∧ (1 : BitVec 5).getLsbD 0 = true ∧ s.power.inputs.timers[inputBit .next].isSome = true
        ∧ s.power.inputs.raw.getLsbD (inputBit .next).1 = true
        ∧ s.power.inputs.debounced.getLsbD (inputBit .next).1 = false ∧ s.panel.ring.current = 0
        ∧ s.panel.ring.slots[(0 : Fin 8)].tag ≠ .empty ∧ s.panel.setState ≠ .absent
        ∧ s.panel.settings.restoreOnWake = restore ∧ s.panel.settings.turnOnWake = turn := by decide +kernel

theorem test_witness_LatchTakesFirstChange :
    ∀ f ∈ [(Input.next, false), (.prev, false), (.chargeDone, false), (.charger, true), (.charger, false),
        (.radioWake, true), (.radioWake, false), (.cover, false), (.cover, true)],
      ∀ closed ∈ [true, false],
        let s := changing .doze SleepState.reset PowerSettings.reset false f.1 f.2 closed
        (s.power.state = .run ∨ s.power.state = .doze) ∧ s.power.inputs.timers[inputBit f.1].isSome = true
          ∧ s.power.inputs.raw.getLsbD (inputBit f.1).1 = f.2
          ∧ s.power.inputs.debounced.getLsbD (inputBit f.1).1 ≠ f.2 ∧ s.power.settings.coverSleep = false
          ∧ s.power.inputs.closed = closed := by decide +kernel

/-! ## Witnesses of the clauses on codes, selectors, charging and brownouts -/

/-- Codes at the ends of their ranges, offered with a qualifier above 15 while a fault is posted. -/
theorem test_witness_QualifierNamesNoCondition :
    let s := withPosted .brownout
    let o := askIf 16 []
    15 < o.qual.toNat
      ∧ (∀ code ∈ [(0x00 : Byte), 0x3F, 0x40, 0x7F, 0x80, 0xFF],
          reaches s (offerSlot (engineField .power) code o) o = true)
      ∧ codeClass .power 0x3F = .reserved ∧ (0x40 : Byte).toNat = 0x40 ∧ (0x80 : Byte).toNat = 0x80 := by
  decide +kernel

theorem test_witness_NoOpMeetsPostedFault :
    ∀ o ∈ [ask [], ask [(19, 1)]],
      reaches (withPosted .brownout) (offerSlot (engineField .power) 0 o) o = true ∧ o.qual.toNat ≤ 15
        ∧ condition (withPosted .brownout) o.qual = true
        ∧ (faultOf (withPosted .brownout) .power).posted = some .brownout := by decide +kernel

/-- Record 5 holds the number of `armed`, and no record holds another; the set is ABSENT or VALID. -/
theorem test_witness_SelectorsSample :
    let s := tabled Parcel.free armed
    parcelOf s 5 = armed ∧ armed.state ≠ .free
      ∧ (∀ q, q ≠ 5 → (parcelOf s q).state ≠ .free → (parcelOf s q).number ≠ armed.number)
      ∧ (∀ q, (parcelOf s q).state ≠ .free → (parcelOf s q).number ≠ armed.number + 1)
      ∧ s.panel.setState = .absent ∧ (ofPanel readyPanel).panel.setState = .valid
      ∧ (ofPanel readyPanel).panel.band = some 0 := by decide +kernel

/-- The places that a direction turns through from slot 7. -/
theorem test_witness_AheadCountsReadySlots :
    let r := { stagedRing with current := 7, dir := Dir.next }
    let place : Nat → Fin 8 := fun i => 7 + Fin.ofNat 8 i
    place 0 = r.current ∧ (∀ i ∈ List.range 8, place (i + 1) = place i + 1) := by decide +kernel

theorem test_witness_ConfigurePowerEvaluatesLow :
    ∀ f ∈ [(0, 150, true, true), (20000, 150, true, false), (0, 500, true, true), (0, 500, false, false)],
      let s := (placed 0x1000 (powerBytes f.1 f.2.1)).withPower
        { Power.reset 0 with gauge := ⟨0, 0, f.2.2.1, .none, 0⟩, batteryLow := f.2.2.2 }
      let n := powerRecord (s.mem.readBytes (opWord atRecord.ops 0).toNat 48)
      offered s .power .configurePower atRecord = true ∧ inHostArea (opWord atRecord.ops 0).toNat 48 = true
        ∧ checkPowerRecord (s.mem.readBytes (opWord atRecord.ops 0).toNat 48) = .none
        ∧ n.capacity = f.1 ∧ n.lowThreshold = f.2.1 ∧ s.power.settings.capacity = 0
        ∧ s.power.settings.lowThreshold = 150 ∧ s.power.gauge.calibrated = f.2.2.1 := by decide +kernel

/-- A queue with a frame of record 5 between two REFUSE frames, and one with its four REFUSE places taken. -/
theorem test_witness_FramesJoinOutboundQueue :
    let a : OutFrame := ⟨.refuse, 7, [1]⟩
    let b : OutFrame := ⟨.record 5, 8, [2]⟩
    let c : OutFrame := ⟨.refuse, 9, [3]⟩
    let s := ofLink { Link.reset with rail := true, outbound := [a, b, c] }
    let t := ofLink { Link.reset with rail := true, outbound := [a, c, { a with parcel := 10 }, { a with parcel := 11 }] }
    s.link.rail = true ∧ t.link.rail = true ∧ State.reset.link.rail = false
      ∧ s.link.outbound = [a] ++ b :: [c] ∧ b.place = .record 5
      ∧ (∀ d ∈ [a] ++ [c], d.place ≠ .record 5) ∧ (∀ d ∈ s.link.outbound, d.place ≠ .record 4)
      ∧ (∀ d ∈ s.link.outbound, d.parcel ≠ 12)
      ∧ (s.link.outbound.filter fun d => decide (d.place = .refuse)).length < 4
      ∧ (∀ d ∈ t.link.outbound, d.parcel ≠ 12)
      ∧ 4 ≤ (t.link.outbound.filter fun d => decide (d.place = .refuse)).length := by decide +kernel

/-- R127: a REFUSE for a number that is queued replaces it in place; a fifth number is not queued. -/
theorem test_refuse_places :
    let a : OutFrame := ⟨.refuse, 7, [1]⟩
    let q := [a, { a with parcel := 8 }, { a with parcel := 9 }, { a with parcel := 10 }]
    joinOutbound q { a with parcel := 9, bytes := [2] } = [a, { a with parcel := 8 }, ⟨.refuse, 9, [2]⟩,
        { a with parcel := 10 }]
      ∧ joinOutbound q { a with parcel := 11 } = q := by decide +kernel

/-- 8.13: with blocks 2, 4 and 6 of eight missing the GAP payload has three ranges in thirteen bytes. -/
theorem test_gap_payload :
    gapPayload [true, true, false, true, false, true, false, true]
      = [3, 2, 0, 1, 0, 4, 0, 1, 0, 6, 0, 1, 0] := by decide +kernel

theorem test_witness_MeasurementChargesGauge :
    (∀ p ∈ [PowerState.run, .sleep], ∀ qr ∈ [0, 1000, 3600000],
        let s := ofPower { (gauged 1 qr .none 0).power with state := p }
        s.power.gauge.qfull ≠ 0 ∧ (s.asleep = true ↔ p = .sleep) ∧ s.power.gauge.calibrated = true)
      ∧ ((gauged 1 0 .none 0).power.settings.vempty : Int) ≤ 3350 ∧ (0 : Int) - 4 * 250 < 0
      ∧ (3600000 : Int) < 3600000 - (-4) * 4000 := by decide +kernel

/-- R152, R156: 4 mA for 250 ms awake and for 4000 ms in SLEEP. -/
theorem test_measurement_charges :
    (∃ t, exec (.measurement 3700 4 25 25) (gauged 1 16000 .none 0) = .next t ∧ t.power.gauge.qr = 15000)
      ∧ (∃ t, exec (.measurement 3700 4 25 25)
          (ofPower { (gauged 1 16000 .none 0).power with state := .sleep }) = .next t ∧ t.power.gauge.qr = 0) := by
  refine ⟨⟨_, rfl, ?_⟩, ⟨_, rfl, ?_⟩⟩ <;> decide +kernel

/-- Reader 1 holding with QUEUE_ROOM, with a bundle of its list at 0x2000 whose last outcome is open. -/
def holdingForRoom (s : State) : State :=
  s.withReader 1 { Reader.reset with
    state := .handing, hold := .queueRoom, next := 1
    current := some ⟨0x4000, 1, false, #v[.done, .pending, .pending]⟩
    openList := [⟨0x2000, 7, true, #v[.done, .done, .queued]⟩] }

theorem test_witness_BrownoutGivesGrantAndPlaces :
    let s := holdingForRoom State.reset
    s.asleep = false ∧ (3099 : Int) < s.power.settings.vcut ∧ s.power.radioClaim = 0 ∧ s.link.fifo = []
      ∧ noLoadOrHeldTurn s = true ∧ allLanesFree s.panel = true ∧ s.panel.queue = []
      ∧ s.power.state ≠ .sleepPending ∧ (readerOf s 1).state = .handing ∧ (readerOf s 1).hold = .queueRoom := by
  decide +kernel

/-- R12, R164: the chain status record of the SLEEP that a brownout enters shows no QUEUE_ROOM. -/
theorem test_brownout_ends_queue_room :
    ∃ t, exec (.measurement 3000 0 25 25) (holdingForRoom State.reset) = .next t
      ∧ t.power.state = .sleep ∧ (readerOf t 1).hold = .none ∧ pageByte t 0x055 = 0 := by
  refine ⟨_, rfl, ?_⟩
  decide +kernel

theorem test_witness_BrownoutFailsStoppedWork :
    let o : ReqRef := ⟨1, 0x2000, 2, 7⟩
    let l := { loadedLane 4 with state := LaneState.driving }
    let a := holdingForRoom (ofPanel { readyPanel with lanes := Panel.reset.lanes.set 15 l })
    let e := { entry ⟨0, 0, 8, 8⟩ .swift with origin := EntryOrigin.ring 1 (some o) }
    let b := holdingForRoom (ofPanel { readyPanel with queue := [e] })
    let c := holdingForRoom (ofPanel { Panel.reset with setState := .loading ⟨0x1000, 384, o, 3⟩ })
    let d := holdingForRoom (entering readyPanel 0 0 .draining .absent)
    let h := holdingForRoom (turnHeld o)
    (∀ s ∈ [a, b, c, d, h], s.asleep = false ∧ (3099 : Int) < s.power.settings.vcut ∧ s.power.radioClaim = 0
        ∧ s.link.fifo = [])
      ∧ noLoadOrHeldTurn a = true ∧ a.power.state ≠ .sleepPending ∧ a.panel.queue = [] ∧ laneOf a 15 = l
      ∧ l.isFree = false ∧ (∀ m, m ≠ 15 → (laneOf a m).isFree = true) ∧ l.origin = some (.request o)
      ∧ a.panel.wholePanel = false
      ∧ noLoadOrHeldTurn b = true ∧ b.power.state ≠ .sleepPending ∧ allLanesFree b.panel = true
      ∧ b.panel.queue = [e] ∧ e.origin.isSleep = false ∧ e.origin.report = some o
      ∧ c.panel.setState = .loading ⟨0x1000, 384, o, 3⟩ ∧ turnWaits c = false ∧ c.power.state ≠ .sleepPending
      ∧ allLanesFree c.panel = true ∧ c.panel.queue = []
      ∧ noLoadOrHeldTurn d = true ∧ allLanesFree d.panel = true ∧ d.panel.queue = []
      ∧ d.power.state = .sleepPending ∧ sleepRef d = some o
      ∧ h.panel.ring.held = some (.queueFull .next 0 .ready (some o)) ∧ h.panel.setState.isLoading = false
      ∧ h.power.state ≠ .sleepPending ∧ allLanesFree h.panel = true ∧ h.panel.queue = [] := by decide +kernel

/-- R73: the outcome of a driving lane and the retirement of its bundle in the brownout. -/
theorem test_brownout_fails_lane :
    let o : ReqRef := ⟨1, 0x2000, 2, 7⟩
    let s := holdingForRoom (ofPanel { readyPanel with
      lanes := Panel.reset.lanes.set 15 { loadedLane 4 with state := LaneState.driving } })
    ∃ t, exec (.measurement 3000 0 25 25) s = .next t ∧ t.mem.readBytes (outcomeAddr o) 3 = [7, 12, 15]
      ∧ t.mem.field 0x2088 4 = 3 ∧ (readerOf t 1).retired = 1 ∧ t.panel.uncertain = [⟨0, 0, 8, 8⟩] := by
  refine ⟨_, rfl, ?_⟩
  decide +kernel

/-- A rectangle of no pixel meets nothing. -/
theorem test_rectangles_meet :
    (⟨0, 0, 2, 2⟩ : Rect).meets ⟨1, 1, 1, 1⟩ = true ∧ (⟨0, 0, 2, 2⟩ : Rect).meets ⟨2, 0, 2, 2⟩ = false
      ∧ (⟨0, 0, 2, 2⟩ : Rect).meets ⟨0, 0, 0, 2⟩ = false := by decide

/-! ## Further clauses: one scan in an event, the transmitter, and what a configuration and a brownout bring -/

/-- The entry of `doubtful` with a budget that its claim as SETTLE fits. -/
def promotable : State := doubtful.withPower { doubtful.power with budget := 100 }

theorem test_witness_PromotedEntryStarts :
    let e := entry ⟨0, 0, 8, 8⟩ .swift
    promotable.panel.queue[(0 : Fin 32).1]? = some e ∧ e.origin.isSleep = false ∧ promotable.panel.band = some 0
      ∧ (∀ k, (laneOf promotable k).isFree = false → e.rect.meets (laneOf promotable k).rect = false)
      ∧ (∀ d ∈ promotable.panel.queue.take 0, e.rect.meets d.rect = false)
      ∧ (laneOf promotable 0).isFree = true ∧ (∀ k, k < (0 : Fin 16) → (laneOf promotable k).isFree = false)
      ∧ e.mode ≠ .settle ∧ isUncertain promotable.panel e.rect = true
      ∧ promotable.panel.settings.mask.uncertain = false
      ∧ committed promotable + waveBurst promotable.mem 0 ≤ promotable.power.budget
      ∧ (laneOf promotable 0).claim = 0 ∧ e.hold = .none ∧ promotable.panel.setState = .valid
      ∧ tempRefusal promotable.panel = false := by decide +kernel

/-- R63, R64: a SWIFT entry on an uncertain rectangle takes lane 0 as SETTLE with SETTLE's burst of 100 mA. -/
theorem test_promoted_entry_starts :
    let t := scan promotable
    t.panel.queue = [] ∧ (laneOf t 0).mode = .settle ∧ (laneOf t 0).promoted = true ∧ (laneOf t 0).claim = 100
      ∧ committed t = 100 := by decide +kernel

theorem test_witness_OneScanServesArrivals :
    startable.scanned = false ∧ (startable.withScanned true).scanned = true
      ∧ startable.panel.setState = .valid ∧ tempRefusal startable.panel = false
      ∧ (State.reset.withScanned true).scanned = true ∧ State.reset.panel.setState ≠ .valid := by decide +kernel

/-- An older entry held for the budget, with its clock running, in a part without a FREE lane. -/
def budgeted : State :=
  let lane := { Lane.free with state := LaneState.driving, rect := ⟨16, 0, 8, 8⟩ }
  drawing { readyPanel with
    queue := [{ entry ⟨0, 0, 8, 8⟩ .settle with hold := .budget, clock := some 7 }]
    lanes := Vector.replicate 16 lane } 0

/-- R61: the scan that has run takes the newest entry alone; a scan of the whole queue stops the older one's clock. -/
theorem test_arrival_keeps_older :
    ((addEntry (entry ⟨8, 0, 8, 8⟩ .tone) (budgeted.withScanned true)).panel.queue.map fun e => (e.hold, e.clock))
        = [(.budget, some 7), (.noLane, none)]
      ∧ ((addEntry (entry ⟨8, 0, 8, 8⟩ .tone) budgeted).panel.queue.map fun e => (e.hold, e.clock))
        = [(.noLane, none), (.noLane, none)] := by decide +kernel

/-- The record of `lightBytes` with both enable flags set, and a light whose two episodes are in progress. -/
def episodeBytes (ifw : Byte) (level : Nat) : List Byte := (lightBytes ifw level).set 5 3
def episodes (auto : Bool) : Light :=
  { fullLight false with
    g := 10, lw := 511, lc := 511, pw := 511, pc := 511, limiting := true, lost := true, auto := auto }

theorem test_witness_ConfigureLightReplacesSettings_episodes :
    ∀ f ∈ [((40 : Byte), 500, false), (80, 500, false), (40, 1000, true), (80, 1000, true)],
      let s := (placed 0x1000 (episodeBytes f.1 f.2.1)).withLight (episodes f.2.2)
      let n := lightRecord (s.mem.readBytes (opWord atRecord.ops 0).toNat 48)
      let l := s.light.reconfigure n
      offered s .light .configureLight atRecord = true ∧ inHostArea (opWord atRecord.ops 0).toNat 48 = true
        ∧ checkLightRecord (s.mem.readBytes (opWord atRecord.ops 0).toNat 48) = .none
        ∧ s.light.limiting = true ∧ s.light.lost = true ∧ s.light.settings.grantLimited = false
        ∧ s.light.settings.sensorLost = false ∧ n.grantLimited = true ∧ n.sensorLost = true
        ∧ (n.ifw = s.light.settings.ifw ↔ f.1 = 40) ∧ n.ifc = s.light.settings.ifc ∧ s.light.auto = f.2.2
        ∧ (n.points = s.light.settings.points ↔ f.2.1 = 500)
        ∧ l.dark = false ∧ (l.lw < l.dw ∨ l.lc < l.dc) := by decide +kernel

/-- R97: both faults of the episodes accrue at such a Configure light. -/
theorem test_configure_light_episodes :
    ∃ t, exec (.configureLight atRecord) ((placed 0x1000 (episodeBytes 40 500)).withLight (episodes false)) = .next t
      ∧ (faultOf t .light).accrued = FaultKind.grantLimited.flag ||| FaultKind.sensorLost.flag := by
  refine ⟨_, rfl, ?_⟩
  decide +kernel

theorem test_witness_TransmitClockSendsByte :
    let f : OutFrame := ⟨.refuse, 7, [1, 0xE7]⟩
    let l (sent : Nat) : Link := { Link.reset with rail := true, sending := some f, sent := sent }
    (lineBytes f).length = 7 ∧ (l 1).sent + 1 < (lineBytes f).length ∧ (l 6).sent + 1 = (lineBytes f).length
      ∧ Link.reset.rail = false ∧ (l 6).rail = true ∧ Link.reset.sending = none ∧ Link.reset.outbound = [] := by
  decide +kernel

/-- R128: the opening delimiter, then the second byte escaped in two, and at last the closing delimiter. -/
theorem test_transmit_bytes :
    let f : OutFrame := ⟨.refuse, 7, [0xE7]⟩
    let l : Link := { Link.reset with rail := true, outbound := [f] }
    l.transmit.line = some 0xE7 ∧ l.transmit.sending = some f ∧ l.transmit.outbound = []
      ∧ l.transmit.transmit.line = some 0xE5 ∧ l.transmit.transmit.transmit.line = some 0xA7
      ∧ ({ l with outbound := [] } : Link).transmit.line = some 0xE7 := by decide +kernel

theorem test_witness_IdleStepTransmits :
    let f : OutFrame := ⟨.refuse, 7, [1, 0xE7]⟩
    let s := ofLink { Link.reset with rail := true, sending := some f, sent := 1 }
    let i := ofLink { Link.reset with rail := true }
    s.pending = [] ∧ s.link.rail = true ∧ s.link.sending = some f ∧ s.link.sent < (lineBytes f).length
      ∧ i.pending = [] ∧ i.link.rail = true ∧ i.link.sending = none ∧ i.link.outbound = []
      ∧ State.reset.pending = [] ∧ State.reset.link.rail = false := by decide +kernel

/-- A driving lane in a part whose uncertain list is full. -/
def fullList : State :=
  holdingForRoom (ofPanel { readyPanel with
    lanes := Panel.reset.lanes.set 15 { loadedLane 4 with state := LaneState.driving }
    uncertain := List.replicate 16 ⟨40, 40, 8, 8⟩ })

theorem test_witness_BrownoutFailsStoppedWork_full_list :
    let l := { loadedLane 4 with state := LaneState.driving }
    fullList.asleep = false ∧ (3099 : Int) < fullList.power.settings.vcut ∧ fullList.power.radioClaim = 0
      ∧ fullList.link.fifo = [] ∧ noLoadOrHeldTurn fullList = true ∧ fullList.power.state ≠ .sleepPending
      ∧ fullList.panel.queue = [] ∧ laneOf fullList 15 = l ∧ l.isFree = false
      ∧ (∀ m, m ≠ 15 → (laneOf fullList m).isFree = true) ∧ l.origin = some (.request ⟨1, 0x2000, 2, 7⟩)
      ∧ fullList.panel.wholePanel = false ∧ 16 ≤ fullList.panel.uncertain.length := by decide +kernel

/-- R42, R72, R164: the 17th rectangle sets the whole-panel flag, and the lane's detail shows no uncertainty added. -/
theorem test_brownout_full_list :
    ∃ t, exec (.measurement 3000 0 25 25) fullList = .next t ∧ t.panel.uncertain = [] ∧ t.panel.wholePanel = true
      ∧ t.mem.readBytes (outcomeAddr ⟨1, 0x2000, 2, 7⟩ + 14) 1 = [0] := by
  refine ⟨_, rfl, ?_⟩
  decide +kernel

/-! ## SLEEP at rest, the full queue, and the power state -/

/-- A queue of 32 entries of button turns, which report to no request. -/
def fullQueue : List Entry := List.replicate 32 { entry ⟨0, 0, 8, 8⟩ .swift with origin := .ring 1 none }

/-- A held turn that waits while the queue holds 32 entries. -/
def turnHeldFull : State := (turnHeld ⟨1, 0x2000, 2, 7⟩).withQueue fullQueue

/-- A part in DARKENING or in SLEEP, with all at rest. -/
def resting (state : PowerState) (step : Option SleepStep) : State :=
  State.reset.withPower { Power.reset 0 with state := state, sleep := { SleepState.reset with step := step } }
    |>.withLight { Light.reset with dark := true }

theorem test_witness_EveryStepKeepsSleepAtRest :
    (∀ s ∈ [State.reset, turnHeldFull, imaging .queued { readyPanel with queue := [imageEntry] },
        imaging (.inLane 0) readyPanel, resting .sleepPending (some .darkening), resting .sleep none],
      sleepSound s = true ∧ queueSound s = true)
      ∧ (resting .sleep none).asleep = true ∧ turnWaits turnHeldFull = true
      ∧ (∀ c ∈ [Instr.darkeningEnd, .resetPin],
          ∃ t, exec c (resting .sleepPending (some .darkening)) = .next t)
      ∧ ∃ t, exec .noticeRead (resting .sleep none) = .next t := by
  refine ⟨by decide +kernel, by decide +kernel, by decide +kernel, ?_, ⟨_, rfl⟩⟩
  intro c hc
  simp only [List.mem_cons, List.not_mem_nil, or_false] at hc
  rcases hc with rfl | rfl <;> exact ⟨_, rfl⟩

theorem test_witness_EveryStepKeepsHeldTurnWaiting :
    sleepSound turnHeldFull = true ∧ queueSound turnHeldFull = true ∧ turnHeldFull.panel.queue.length = 32
      ∧ ∃ t, exec .wakePulseEnd turnHeldFull = .next t := ⟨by decide +kernel, by decide +kernel, by decide, _, rfl⟩

theorem test_witness_PartResetFailsStoppedWork_full_queue :
    let o : ReqRef := ⟨1, 0x2000, 2, 7⟩
    ∀ s ∈ [turnHeldFull, holdingForRoom turnHeldFull],
      s.panel.ring.held = some (.queueFull .next 0 .ready (some o)) ∧ s.panel.setState.isLoading = false
        ∧ s.power.state ≠ .sleepPending ∧ allLanesFree s.panel = true
        ∧ (s.panel.queue.all fun e => e.origin.report.isNone) = true ∧ memoryCanonical s = true
        ∧ s.asleep = false ∧ (3099 : Int) < s.power.settings.vcut ∧ s.power.radioClaim = 0 ∧ s.link.fifo = [] := by
  decide +kernel

/-- R73, R90: the held turn of a full queue reads FAILED HALTED after a part reset and after a brownout. -/
theorem test_held_turn_fails :
    (∃ t, exec .resetPin turnHeldFull = .next t ∧ t.mem.readBytes (outcomeAddr ⟨1, 0x2000, 2, 7⟩) 3 = [7, 12, 255])
      ∧ ∃ t, exec (.measurement 3000 0 25 25) turnHeldFull = .next t
        ∧ t.mem.readBytes (outcomeAddr ⟨1, 0x2000, 2, 7⟩) 3 = [7, 12, 255] := by
  refine ⟨⟨_, rfl, ?_⟩, ⟨_, rfl, ?_⟩⟩ <;> decide +kernel

/-- R167: Doze, Sleep, Cancel sleep and the end of DARKENING each make their change. -/
theorem test_witness_PowerStateFollowsTable :
    let o : ReqRef := ⟨1, 0x2000, 2, 7⟩
    let slot := fun code => offerSlot 4 code (ask [])
    (∃ u, handOver (slot 0x03) o State.reset = some u ∧ u.power.state = .doze)
      ∧ (∃ u, handOver (slot 0x04) o State.reset = some u ∧ u.power.state = .sleepPending)
      ∧ (∃ u, handOver (slot 0x05) o (drowsy .draining) = some u ∧ u.power.state = .run)
      ∧ (∃ u, settleStep (resting .sleepPending (some .darkening)) = some u ∧ u.power.state = .sleep) := by
  refine ⟨⟨_, rfl, ?_⟩, ⟨_, rfl, ?_⟩, ⟨_, rfl, ?_⟩, ⟨_, rfl, ?_⟩⟩ <;> decide +kernel

theorem test_witness_PowerStateFollowsTable_commands :
    (resting .sleep none).asleep = true ∧ (resting .doze none).power.state = .doze
      ∧ State.reset.asleep = false ∧ State.reset.power.mark = false
      ∧ (∃ t, exec (.hostRead 0 1) (resting .sleep none) = .next t ∧ t.asleep = false)
      ∧ (∃ t, exec .noticeRead (resting .doze none) = .next t ∧ t.power.state = .run)
      ∧ (∃ t, exec (.measurement 3000 0 25 25) State.reset = .next t ∧ t.asleep = true ∧ t.power.mark = true)
      ∧ State.reset.pending = [] ∧ ∃ t, step State.reset = .next t := by
  refine ⟨by decide, by decide, by decide, by decide, ⟨_, rfl, ?_⟩, ⟨_, rfl, ?_⟩, ⟨_, rfl, ?_, ?_⟩, by decide, _, rfl⟩
    <;> decide +kernel

theorem test_witness_SleepStepsWait :
    (∀ s ∈ [entering readyPanel 0 0 .draining .absent, entering { readyPanel with queue := fullQueue } 0 0 .draining .absent],
        s.power.state = .sleepPending ∧ s.power.sleep.step = some .draining
          ∧ (drainingRests s = true ↔ s.panel.queue = []))
      ∧ (∀ i ∈ [ImageEntry.over, .queued], (imaging i readyPanel).power.state = .sleepPending
          ∧ (imaging i readyPanel).power.sleep.step = some .imaging ∧ (imaging i readyPanel).power.sleep.image = i)
      ∧ (∀ pw ∈ [0, 9], let s := (resting .sleepPending (some .darkening)).withLight { Light.reset with pw := pw }
          s.power.sleep.step = some .darkening ∧ s.light.pw = pw ∧ s.light.pc = 0)
      ∧ State.reset.asleep = false ∧ State.reset.reports = [] ∧ (chainStep State.reset).isNone = true := by
  decide +kernel

/-! ## The limiting episode ahead of the readers, and a Set light in its auto form -/

/-- R98, R99: a Set light of the auto form without a level adopts the level of the table. -/
theorem test_set_light_auto :
    zeroOperands .light .setLight (lighting 0 30 1).ops = true
      ∧ ∃ t, exec (.setLight (lighting 0 30 1)) State.reset = .next t ∧ t.light.auto = true ∧ t.light.level = 500
        ∧ t.mem.readBytes 0x1058 2 = [5, 0] := by
  refine ⟨by decide +kernel, _, rfl, ?_⟩
  decide +kernel

/-- R27, R98, R99: a level beside the auto flag 1 is refused ILLEGAL in either of its bytes. Beside the auto flag 0 a
level above 1000 is clamped. -/
theorem test_set_light_unused_level :
    (∀ level ∈ [1, 256], zeroOperands .light .setLight (lighting level 30 1).ops = false)
      ∧ (∃ t, exec (.setLight (lighting 1 30 1)) State.reset = .next t ∧ t.light.auto = false
        ∧ t.mem.readBytes 0x1058 2 = [2, 1])
      ∧ ∃ t, exec (.setLight (lighting 1001 30 0)) State.reset = .next t ∧ t.light.level = 1000
        ∧ t.mem.readBytes 0x1058 2 = [5, 0] := by
  refine ⟨by decide +kernel, ⟨_, rfl, ?_⟩, _, rfl, ?_⟩ <;> decide +kernel

/-- A part in SLEEP whose light asks for more than its grant, with a Set light of level 0 waiting for the wake. -/
def lightWaits (enabled : Bool) : State :=
  let s := atBundle .handing .none 0 ((Vector.replicate 3 .empty).set 0 (offerSlot 2 2 (lighting 0 30 0)))
    (Vector.replicate 3 .pending) []
  (s.withPower { Power.reset 0 with
      state := .sleep, sleep := { SleepState.reset with wakeTimer := some 1 } }).withLight
    { Light.reset with
      settings := { LightSettings.reset with grantLimited := enabled }
      dark := true, dw := 4095, il := 40, g := 10 }

/-- R111, R178, R185: the wake finds the episode before the waiting slot is taken. A posted GRANT_LIMITED refuses it;
masked, GRANT_LIMITED has accrued though the Set light ends the limit. -/
theorem test_wake_limits_before_readers :
    (∃ t, exec .wakeTimerExpiry (lightWaits true) = .next t ∧ (faultOf t .light).posted = none
        ∧ (faultOf t .light).accrued = 1 ∧ (readerOf t 1).current.map (·.outcomes[0]) = some .refused)
      ∧ ∃ t, exec .wakeTimerExpiry (lightWaits false) = .next t ∧ t.light.limiting = false
        ∧ (faultOf t .light).accrued = 1 ∧ (readerOf t 1).current.map (·.outcomes[0]) = some .done := by
  refine ⟨⟨_, rfl, ?_⟩, ⟨_, rfl, ?_⟩⟩ <;> decide +kernel

theorem test_witness_DarkHoldEndEvaluatesLimiting :
    (entering readyPanel 0 0 .darkening .over).power.sleep.step = some .darkening
      ∧ (lightWaits true).light.limiting = false ∧ (lightWaits true).light.il > (lightWaits true).light.g
      ∧ (4095 : Nat) * 10 / 40 < (lightWaits true).light.dw
      ∧ (lightWaits true).light.settings.grantLimited = true ∧ (lightWaits false).light.settings.grantLimited = false
      ∧ (faultOf (lightWaits true) .light).posted = none := by decide +kernel

theorem test_witness_HotStateOccurs :
    let s := ofPower { Power.reset 0 with settings := { PowerSettings.reset with batteryHot := true } }
    s.asleep = false ∧ (s.power.settings.vcut : Int) ≤ max 0 (min 3700 5000) ∧ s.power.hot = false
      ∧ (s.power.settings.hotLimit : Int) ≤ max (-40) (min 55 85) ∧ s.power.settings.batteryHot = true
      ∧ s.power.settings.budgetShort = false ∧ (faultOf s .power).posted = none
      ∧ (∃ t, exec (.measurement 3700 0 55 25) s = .next t ∧ (faultOf t .power).posted = some .batteryHot) := by
  refine ⟨by decide +kernel, by decide +kernel, by decide +kernel, by decide +kernel, by decide +kernel,
    by decide +kernel, by decide +kernel, _, rfl, ?_⟩
  decide +kernel

end Sys2Proof.Tests
end

section
/-! SUPPORT. Bundle addresses: what the check of R5 says of an address, and what a chain fault (R18) leaves. -/

namespace Sys2Proof.Machine

/-! ## The bundles that the chain unit holds (R5, check 4) -/

/-- The overlap test by bounds is the one of R5 by bytes: it finds a byte that both bundles have. -/
theorem bundlesOverlap_iff (a b : Word) :
    bundlesOverlap a b = true ↔ ∃ i j : Nat, i < 160 ∧ j < 160 ∧ a.toNat + i = b.toNat + j := by
  simp only [bundlesOverlap, Bool.and_eq_true, decide_eq_true_eq]
  constructor
  · rintro ⟨hab, hba⟩
    exact ⟨b.toNat - a.toNat, a.toNat - b.toNat, by omega, by omega, by omega⟩
  · rintro ⟨i, j, hi, hj, shared⟩
    omega

theorem chainHolds_iff (s : State) (a : Word) :
    chainHolds s a = true ↔
      ∃ b ∈ heldBundles s, ∃ i j : Nat, i < 160 ∧ j < 160 ∧ a.toNat + i = b.addr.toNat + j := by
  simp only [chainHolds, List.any_eq_true, bundlesOverlap_iff]

theorem chainHolds_eq_false_iff (s : State) (a : Word) :
    chainHolds s a = false ↔
      ∀ b ∈ heldBundles s, ∀ i j : Nat, i < 160 → j < 160 → a.toNat + i ≠ b.addr.toNat + j := by
  rw [← Bool.not_eq_true, chainHolds_iff]
  push Not
  rfl

/-! ## The check of an address (R5) -/

/-- The five answers of the check, each with the tests that lead to it in the order of R5. -/
theorem checkBundle_cases (s : State) (a : Word) :
    (a.toNat % 32 ≠ 0 ∧ checkBundle s a = .misaligned)
      ∨ (a.toNat % 32 = 0 ∧ 0x2FFFF60 < a.toNat ∧ checkBundle s a = .outside)
      ∨ (a.toNat % 32 = 0 ∧ a.toNat < 0x400 ∧ checkBundle s a = .anchor)
      ∨ (a.toNat % 32 = 0 ∧ a.toNat ≤ 0x2FFFF60 ∧ 0x400 ≤ a.toNat ∧ chainHolds s a = true
          ∧ checkBundle s a = .inUse)
      ∨ (a.toNat % 32 = 0 ∧ a.toNat ≤ 0x2FFFF60 ∧ 0x400 ≤ a.toNat ∧ chainHolds s a = false
          ∧ checkBundle s a = .none) := by
  unfold checkBundle chainHolds Config.lastBundle Config.hostAreaStart
  split_ifs with unaligned outside anchor held
  · exact .inl ⟨unaligned, rfl⟩
  · exact .inr (.inl ⟨by omega, outside, rfl⟩)
  · exact .inr (.inr (.inl ⟨by omega, anchor, rfl⟩))
  · exact .inr (.inr (.inr (.inl ⟨by omega, by omega, by omega, held, rfl⟩)))
  · exact .inr (.inr (.inr (.inr ⟨by omega, by omega, by omega, eq_false_of_ne_true held, rfl⟩)))

theorem checkBundle_eq_misaligned_iff (s : State) (a : Word) :
    checkBundle s a = .misaligned ↔ a.toNat % 32 ≠ 0 := by
  obtain h | h | h | h | h := checkBundle_cases s a <;> simp [h]

theorem checkBundle_eq_outside_iff (s : State) (a : Word) :
    checkBundle s a = .outside ↔ a.toNat % 32 = 0 ∧ 0x2FFFF60 < a.toNat := by
  obtain h | h | h | h | h := checkBundle_cases s a <;> simp [h]
  omega

theorem checkBundle_eq_anchor_iff (s : State) (a : Word) :
    checkBundle s a = .anchor ↔ a.toNat % 32 = 0 ∧ a.toNat < 0x400 := by
  obtain h | h | h | h | h := checkBundle_cases s a <;> simp [h]
  omega

theorem checkBundle_eq_inUse_iff (s : State) (a : Word) :
    checkBundle s a = .inUse ↔
      a.toNat % 32 = 0 ∧ a.toNat ≤ 0x2FFFF60 ∧ 0x400 ≤ a.toNat ∧ chainHolds s a = true := by
  obtain h | h | h | h | h := checkBundle_cases s a <;> simp [h]

theorem checkBundle_eq_none_iff (s : State) (a : Word) :
    checkBundle s a = .none ↔
      a.toNat % 32 = 0 ∧ a.toNat ≤ 0x2FFFF60 ∧ 0x400 ≤ a.toNat ∧ chainHolds s a = false := by
  obtain h | h | h | h | h := checkBundle_cases s a <;> simp [h]

/-! ## Readers and the chain fault (R18) -/

@[simp] theorem readerOf_withReader_same (s : State) (k : Fin 4) (r : Reader) :
    readerOf (s.withReader k r) k = r := by
  simp [readerOf]

/-- A reader without a current bundle has none to give up on entering READING (R10). -/
theorem withReader_without_current {s : State} {k : Fin 4} (h : (readerOf s k).current = none) :
    s.withReader k { readerOf s k with current := none } = s := by
  have same : { readerOf s k with current := none } = readerOf s k := by rw [← h]
  rw [same]
  simp [State.withReader, State.withReaders, readerOf]

@[simp] theorem readerOf_raiseFault (n : Bool) (s : State) (k : Fin 4) :
    readerOf (raiseFault n s) k = readerOf s k := by
  obtain ⟨w, hw⟩ := raiseFault_shape n s
  rw [hw]
  rfl

@[simp] theorem raiseFault_notices (n : Bool) (s : State) :
    (raiseFault n s).notices = s.notices ||| Cause.fault.flag := by
  obtain ⟨w, hw⟩ := raiseFault_shape n s
  rw [hw]
  rfl

@[simp] theorem readerOf_chainFault_same (k : Fin 4) (a : Word) (c : ChainCause) (s : State) :
    readerOf (chainFault k a c s) k =
      { readerOf s k with
        state := .stopped, hold := .none, current := none, next := 0, fetched := none, faultAddr := a,
        faultCause := c } := by
  simp [chainFault]

@[simp] theorem chainFault_notices (k : Fin 4) (a : Word) (c : ChainCause) (s : State) :
    (chainFault k a c s).notices = s.notices ||| Cause.fault.flag := by
  simp [chainFault]

/-- R10, R18: an address that fails the check, once the bundle left is no longer current, is a chain fault. -/
theorem enterReading_of_fails {s t : State} {k : Fin 4} {a : Word}
    (ht : t = s.withReader k { readerOf s k with current := none }) (hc : checkBundle t a ≠ .none) :
    enterReading k a s = chainFault k a (checkBundle t a) t := by
  subst ht
  unfold enterReading
  dsimp only
  split
  · contradiction
  · rfl

/-! ## The statement -/

/-- Settles O20: the five answers of the check from its cases, and the stop of the reader from the chain fault. -/
theorem bundleAddressChecks : Obligations.BundleAddressChecks := by
  intro s a
  rw [← chainHolds_eq_false_iff, ← chainHolds_iff]
  refine ⟨checkBundle_eq_none_iff s a, checkBundle_eq_misaligned_iff s a, checkBundle_eq_outside_iff s a,
    checkBundle_eq_anchor_iff s a, checkBundle_eq_inUse_iff s a, fun k hk hc => ?_⟩
  have stops : enterReading k a s = chainFault k a (checkBundle s a) s :=
    enterReading_of_fails (withReader_without_current hk).symm hc
  simp [stops]

end Sys2Proof.Machine
end

section
/-! SUPPORT. Set conditions (R33): what its masked write leaves of each condition, and the three ways in which its
event can go once the engine has taken the slot with the qualifier true (R27, R185). -/

namespace Sys2Proof.Machine

/-! ## A request taken with its qualifier true (R25, R27) -/

/-- A presented slot has the hand-over of its request code, with the qualifier that it names. -/
theorem settleSlot_of_presented {s : State} {e : Engine} {r : RequestName} {o : Offer}
    (hp : presented s e r o = true) (ref : ReqRef) (t : State) :
    settleSlot (offerSlot (engineField e) (requestCode e r) o) ref t
      = offerCode e (requestCode e r) ref (condition t o.qual) o.ops t := by
  simp only [presented, Bool.and_eq_true, decide_eq_true_eq] at hp
  obtain ⟨-, inRange⟩ := hp
  have named : ¬ 15 < o.qual.toNat := Nat.not_lt.2 inRange
  simp only [settleSlot, offerSlot, engineField_ne, engineOf_field, named, if_false]

/-- The event of a defined request that its engine takes with its qualifier true: the checks of R27, passed or
not. -/
theorem exec_of_presented {e : Engine} {r : RequestName} {c : Instr} {o : Offer} {s : State}
    (hc : requestOf c = some (e, r, o)) (hp : presented s e r o = true) (hq : condition s o.qual = true)
    (taken : declines (beginEvent s) r = false) :
    exec c s = .next (carried s o (examine e r (offerRef o) true o.ops (beginEvent s))) := by
  have reach : reaches s (offerSlot (engineField e) (requestCode e r) o) o = true := by
    simp only [presented, Bool.and_eq_true] at hp
    exact hp.1
  have wf : o.wellFormed = true := by
    simp only [reaches, Bool.and_eq_true] at reach
    obtain ⟨⟨⟨wf, -⟩, -⟩, -⟩ := reach
    exact wf
  have qual : condition (beginEvent s) o.qual = true := hq
  have settles : settleSlot (offerSlot (engineField e) (requestCode e r) o) (offerRef o) (beginEvent s)
      = some (examine e r (offerRef o) true o.ops (beginEvent s)) := by
    rw [settleSlot_of_presented hp, qual]
    simp [offerCode, codeClass_request e r c o hc, offerDefined, taken]
  rw [exec_request e r c o s hc, runOffer, wf, guarded, if_pos rfl, offerEvent_carried reach settles]

@[simp] theorem faultOf_beginEvent (s : State) (e : Engine) : faultOf (beginEvent s) e = faultOf s e := rfl

/-- R27, step 1: a posted fault refuses every request but Clear faults. -/
theorem examine_of_posted {e : Engine} {r : RequestName} {o : ReqRef} {qual : Bool} {ops : Operands} {s : State}
    (hr : r ≠ .clearFaults) (h : (faultOf s e).posted.isSome = true) :
    examine e r o qual ops s = refusePosted e o s := by
  simp [examine, h, hr]

/-- R27, step 2: without a posted fault, a nonzero byte that the request defines as zero refuses it. -/
theorem examine_of_nonzero {e : Engine} {r : RequestName} {o : ReqRef} {qual : Bool} {ops : Operands} {s : State}
    (h : (faultOf s e).posted = none) (hz : zeroOperands e r ops = false) :
    examine e r o qual ops s = refuse o .illegal s := by
  simp [examine, h, hz]

/-- R27, step 4: a request that passes the first three steps. -/
theorem examine_of_passed {e : Engine} {r : RequestName} {o : ReqRef} {qual : Bool} {ops : Operands} {s : State}
    (h : (faultOf s e).posted = none) (hz : zeroOperands e r ops = true) (hs : sleepingRefusal s r = false) :
    examine e r o qual ops s = takeRequest e r o qual ops s := by
  simp [examine, h, hz, hs]

/-! ## The operand bytes defined zero (R27, 12.2) -/

theorem zeroOutside_iff (fields : List (Nat × Nat)) (ops : Operands) :
    zeroOutside fields ops = true ↔ ∀ i < 20, inFields fields i = false → opByte ops i = 0 := by
  simp only [zeroOutside, List.all_eq_true, List.mem_range, Bool.or_eq_true, beq_iff_eq]
  exact forall₂_congr fun i _ => by cases inFields fields i <;> simp

/-- The operands of a Set conditions are its first two bytes, the mask and the value set. -/
theorem zeroOperands_setConditions_iff (e : Engine) (ops : Operands) :
    zeroOperands e .setConditions ops = true ↔ ∀ i, 2 ≤ i → i < 20 → opByte ops i = 0 := by
  have outside (i : Nat) : inFields [(0, 2)] i = false ↔ 2 ≤ i := by
    simp only [inFields, List.any_cons, List.any_nil, Bool.or_false, Bool.and_eq_false_iff, decide_eq_false_iff_not]
    omega
  simp only [zeroOperands, namedBytes, Bool.and_true, zeroOutside_iff, outside]
  exact forall_congr' fun i => forall_comm

/-! ## The condition values (R21, R33) -/

/-- Conditions 0 to 7 are not those of a Set conditions. -/
theorem maskedConditions_owned (old : BitVec 16) (mask values : Byte) {i : Nat} (hi : i < 8) :
    (maskedConditions old mask values).getLsbD i = old.getLsbD i := by
  have inWidth : i < 16 := by omega
  simp [maskedConditions, hi, inWidth]

/-- Condition `8 + i` takes the flag of the value set where its mask flag is set. -/
theorem maskedConditions_user (old : BitVec 16) (mask values : Byte) {i : Nat} (hi : i < 8) :
    (maskedConditions old mask values).getLsbD (8 + i)
      = if mask.getLsbD i then values.getLsbD i else old.getLsbD (8 + i) := by
  have inWidth : 8 + i < 16 := by omega
  cases masked : mask.getLsbD i <;> simp [maskedConditions, inWidth, masked]

/-- The first write of conditions in a command's event. -/
theorem setConditions_beginEvent (v : BitVec 16) (s : State) :
    setConditions v (beginEvent s) = (beginEvent s).withConds (conditionsWith s v) := by
  by_cases same : v = s.conds.values
  · subst same
    rw [conditionsWith, if_pos rfl, bne_self_eq_false]
    exact if_pos rfl
  · have changed : (v != s.conds.values) = true := bne_iff_ne.2 same
    rw [conditionsWith, if_neg same, changed]
    exact if_neg same

/-- Conditions 8 to 15 are the high byte of the condition values. -/
theorem userConditions_toNat (s : State) : (userConditions s).toNat = s.conds.values.toNat / 256 := by
  have bound := s.conds.values.isLt
  simp only [userConditions, BitVec.extractLsb'_toNat, Nat.shiftRight_eq_div_pow]
  omega

/-- R33, as the first write of conditions in its event: the masked write, and DONE with conditions 8 to 15 after it. -/
theorem takeSetConditions_beginEvent (o : ReqRef) {ops : Operands} {s : State} {v : BitVec 16}
    (hv : maskedConditions s.conds.values (opByte ops 0) (opByte ops 1) = v) :
    takeSetConditions o ops (beginEvent s)
      = writeOutcome o .done .none (outcomeDetail [(1, v.toNat / 256)])
          ((beginEvent s).withConds (conditionsWith s v)) := by
  have values : (beginEvent s).conds.values = s.conds.values := rfl
  simp only [takeSetConditions, finish, values, hv, setConditions_beginEvent, userConditions_toNat]
  rfl

/-! ## The statement -/

/-- Settles O27: each part is one answer of the checks of R27, and the masked write is R33's. -/
theorem setConditionsWritesMaskedConditions : Obligations.SetConditionsWritesMaskedConditions := by
  intro s o hp hq
  have taken : exec (.setConditions o) s
      = .next (carried s o (examine .power .setConditions (offerRef o) true o.ops (beginEvent s))) :=
    exec_of_presented rfl hp hq rfl
  rw [taken]
  refine ⟨fun k posted => ?_, fun clear ⟨i, lo, hi, nonzero⟩ => ?_, fun clear zero => ?_⟩
  · have isPosted : (faultOf s .power).posted.isSome = true := by simp [posted]
    rw [examine_of_posted (by decide) (by rwa [faultOf_beginEvent]), refusePosted, faultOf_beginEvent, postedDetail,
      posted]
    rfl
  · have notZero : zeroOperands .power .setConditions o.ops = false :=
      eq_false_of_ne_true fun z => nonzero ((zeroOperands_setConditions_iff _ _).1 z i lo hi)
    rw [examine_of_nonzero (by rwa [faultOf_beginEvent]) notZero, refuse]
  · refine ⟨maskedConditions s.conds.values (opByte o.ops 0) (opByte o.ops 1),
      fun i hi => maskedConditions_owned _ _ _ hi, fun i hi => maskedConditions_user _ _ _ hi, ?_⟩
    have zeros : zeroOperands .power .setConditions o.ops = true := (zeroOperands_setConditions_iff _ _).2 zero
    rw [examine_of_passed (by rwa [faultOf_beginEvent]) zeros rfl, takeRequest, takeSetConditions_beginEvent _ rfl]

end Sys2Proof.Machine
end

section
/-! SUPPORT. The auto level (R107): the truncated quotient of a segment lies between 0 and the rise of its level, the
table's walk stops at the segment that covers the reading or at its last point, and a reading at the first point's
lux gets the same level from both arms of `autoLevel`. -/

namespace Sys2Proof.Machine

/-! ## The truncated quotient of a segment -/

/-- A part `n` of `d`, taken of a rise: the quotient lies between 0 and the rise. -/
theorem tdiv_of_part_of_rise {n d e : Int} (hn : 0 ≤ n) (hd : n < d) (he : 0 ≤ e) :
    0 ≤ (n * e).tdiv d ∧ (n * e).tdiv d ≤ e := by
  have product : 0 ≤ n * e := Int.mul_nonneg hn he
  refine ⟨Int.tdiv_nonneg product (hn.trans hd.le), ?_⟩
  rw [Int.tdiv_eq_ediv_of_nonneg product]
  refine Int.ediv_le_of_le_mul (hn.trans_lt hd) ?_
  rw [mul_comm n e]
  exact mul_le_mul_of_nonneg_left hd.le he

/-- R107: the quotient of a falling segment is that of the rising one with its sign turned, so it too lies between 0
and the change of the level. -/
theorem tdiv_of_part_between {n d : Int} (hn : 0 ≤ n) (hd : n < d) (e : Int) :
    min 0 e ≤ (n * e).tdiv d ∧ (n * e).tdiv d ≤ max 0 e := by
  rcases le_total 0 e with rising | falling
  · have := tdiv_of_part_of_rise hn hd rising
    omega
  · have turned := tdiv_of_part_of_rise hn hd (Int.neg_nonneg.2 falling)
    rw [Int.mul_neg, Int.neg_tdiv] at turned
    omega

/-! ## The level on a segment -/

section Segment

variable {a : Nat} {p q : Nat × Nat}

/-- Where the reading lies on the segment, the level is that of R107: the quotient takes it below neither end, so
never below 0. -/
theorem segmentLevel_eq (hp : p.1 ≤ a) (hq : a < q.1) :
    (segmentLevel a p q : Int)
      = p.2 + (((a : Int) - p.1) * ((q.2 : Int) - p.2)).tdiv ((q.1 : Int) - p.1) := by
  have between := tdiv_of_part_between (n := (a : Int) - p.1) (d := (q.1 : Int) - p.1) (by omega) (by omega)
    ((q.2 : Int) - p.2)
  exact Int.toNat_of_nonneg (by omega)

theorem segmentLevel_between (hp : p.1 ≤ a) (hq : a < q.1) :
    min p.2 q.2 ≤ segmentLevel a p q ∧ segmentLevel a p q ≤ max p.2 q.2 := by
  have between := tdiv_of_part_between (n := (a : Int) - p.1) (d := (q.1 : Int) - p.1) (by omega) (by omega)
    ((q.2 : Int) - p.2)
  have level := segmentLevel_eq hp hq
  omega

/-- R107: at the lux of its first point the segment gives the level of that point. -/
@[simp] theorem segmentLevel_at_first (p q : Nat × Nat) : segmentLevel p.1 p q = p.2 := by
  simp [segmentLevel]

end Segment

/-! ## Tables whose lux values rise (R96) -/

theorem pointsOk_cons_cons_iff (p q : Nat × Nat) (rest : List (Nat × Nat)) :
    pointsOk (p :: q :: rest) = true ↔ p.2 ≤ 1000 ∧ p.1 < q.1 ∧ pointsOk (q :: rest) = true := by
  simp [pointsOk, and_assoc]

theorem level_le_of_pointsOk_cons {p : Nat × Nat} {rest : List (Nat × Nat)} (ok : pointsOk (p :: rest) = true) :
    p.2 ≤ 1000 := by
  cases rest with
  | nil => simpa [pointsOk] using ok
  | cons q rest => exact ((pointsOk_cons_cons_iff p q rest).1 ok).1

/-- The first point has the least lux of the table. -/
theorem first_lux_le_of_pointsOk {p r : Nat × Nat} {rest : List (Nat × Nat)} (ok : pointsOk (p :: rest) = true)
    (hr : r ∈ p :: rest) : p.1 ≤ r.1 := by
  induction rest generalizing p with
  | nil => rw [List.mem_singleton.1 hr]
  | cons q rest ih =>
    obtain ⟨-, rises, okTail⟩ := (pointsOk_cons_cons_iff p q rest).1 ok
    rcases List.mem_cons.1 hr with rfl | later
    · exact le_rfl
    · exact rises.le.trans (ih okTail later)

/-! ## The walk along the table -/

section Walk

variable {a : Nat} {points : List (Nat × Nat)}

/-- The walk stops at the segment that covers the reading: it passes each point before, whose successor's lux is not
above the reading. -/
theorem tableLevel_of_segment (ok : pointsOk points = true) {i : Nat} {p q : Nat × Nat} (hp : points[i]? = some p)
    (hq : points[i + 1]? = some q) (above : p.1 ≤ a) (below : a < q.1) :
    tableLevel a points = segmentLevel a p q := by
  induction i generalizing points with
  | zero =>
    match points with
    | [] | [_] => simp at hq
    | _ :: _ :: _ =>
      obtain rfl := Option.some.inj hp
      obtain rfl := Option.some.inj hq
      exact if_pos below
  | succ i ih =>
    match points with
    | [] | [_] => simp at hp
    | p₀ :: p₁ :: rest =>
      obtain ⟨-, -, okTail⟩ := (pointsOk_cons_cons_iff p₀ p₁ rest).1 ok
      have first : p₁.1 ≤ p.1 := first_lux_le_of_pointsOk okTail (List.mem_of_getElem? hp)
      calc tableLevel a (p₀ :: p₁ :: rest)
        _ = tableLevel a (p₁ :: rest) := if_neg (by omega)
        _ = segmentLevel a p q := ih okTail hp hq

/-- With the reading at or above the last point, the walk passes every segment. -/
theorem tableLevel_of_last (ok : pointsOk points = true) {p : Nat × Nat} (hp : points.getLast? = some p)
    (above : p.1 ≤ a) : tableLevel a points = p.2 := by
  induction points with
  | nil => simp at hp
  | cons p₀ points ih =>
    match points with
    | [] =>
      obtain rfl := Option.some.inj hp
      rfl
    | p₁ :: rest =>
      obtain ⟨-, -, okTail⟩ := (pointsOk_cons_cons_iff p₀ p₁ rest).1 ok
      rw [List.getLast?_cons_cons] at hp
      have first : p₁.1 ≤ p.1 := first_lux_le_of_pointsOk okTail (List.mem_of_getLast? hp)
      calc tableLevel a (p₀ :: p₁ :: rest)
        _ = tableLevel a (p₁ :: rest) := if_neg (by omega)
        _ = p.2 := ih okTail hp

/-- From the first point's lux on, the walk gives a level of the table or one between two of them. -/
theorem tableLevel_le {p : Nat × Nat} {rest : List (Nat × Nat)} (ok : pointsOk (p :: rest) = true)
    (above : p.1 ≤ a) : tableLevel a (p :: rest) ≤ 1000 := by
  induction rest generalizing p with
  | nil => exact level_le_of_pointsOk_cons ok
  | cons q rest ih =>
    obtain ⟨levelP, -, okTail⟩ := (pointsOk_cons_cons_iff p q rest).1 ok
    have levelQ : q.2 ≤ 1000 := level_le_of_pointsOk_cons okTail
    unfold tableLevel
    split_ifs with covered
    · have between := segmentLevel_between above covered
      omega
    · exact ih okTail (Nat.le_of_not_lt covered)

end Walk

/-! ## The auto level -/

section AutoLevel

variable {a : Nat} {p : Nat × Nat} {rest : List (Nat × Nat)}

theorem autoLevel_of_le_first (below : a ≤ p.1) : autoLevel (p :: rest) a = p.2 := if_pos below

/-- From the first point's lux on, the auto level is the walk's: at that lux, where `autoLevel` answers before the
walk, the first segment gives the first point's level. -/
theorem autoLevel_eq_tableLevel (ok : pointsOk (p :: rest) = true) (above : p.1 ≤ a) :
    autoLevel (p :: rest) a = tableLevel a (p :: rest) := by
  rcases above.eq_or_lt with rfl | beyond
  · rw [autoLevel_of_le_first le_rfl]
    cases rest with
    | nil => rfl
    | cons q rest =>
      obtain ⟨-, rises, -⟩ := (pointsOk_cons_cons_iff p q rest).1 ok
      rw [tableLevel_of_segment ok (i := 0) rfl rfl le_rfl rises, segmentLevel_at_first]
  · exact if_neg (Nat.not_le.2 beyond)

theorem autoLevel_of_last (ok : pointsOk (p :: rest) = true) {r : Nat × Nat} (hr : (p :: rest).getLast? = some r)
    (above : r.1 ≤ a) : autoLevel (p :: rest) a = r.2 := by
  have first : p.1 ≤ r.1 := first_lux_le_of_pointsOk ok (List.mem_of_getLast? hr)
  rw [autoLevel_eq_tableLevel ok (first.trans above), tableLevel_of_last ok hr above]

theorem autoLevel_of_segment (ok : pointsOk (p :: rest) = true) {i : Nat} {r q : Nat × Nat}
    (hr : (p :: rest)[i]? = some r) (hq : (p :: rest)[i + 1]? = some q) (above : r.1 ≤ a) (below : a < q.1) :
    autoLevel (p :: rest) a = segmentLevel a r q := by
  have first : p.1 ≤ r.1 := first_lux_le_of_pointsOk ok (List.mem_of_getElem? hr)
  rw [autoLevel_eq_tableLevel ok (first.trans above), tableLevel_of_segment ok hr hq above below]

theorem autoLevel_le (ok : pointsOk (p :: rest) = true) (a : Nat) : autoLevel (p :: rest) a ≤ 1000 := by
  rcases le_total a p.1 with below | above
  · rw [autoLevel_of_le_first below]
    exact level_le_of_pointsOk_cons ok
  · rw [autoLevel_eq_tableLevel ok above]
    exact tableLevel_le ok above

end AutoLevel

/-! ## The statement -/

/-- Settles O45: the auto level at both ends, on a segment and its bound, each from its own lemma. -/
theorem autoLevelFromTable : Obligations.AutoLevelFromTable := by
  intro points a ok two
  match points with
  | [] => simp at two
  | p₀ :: rest =>
    refine ⟨fun p hp below => ?_, fun p hp above => autoLevel_of_last ok hp above,
      fun i p q hp hq above below => ?_, autoLevel_le ok a⟩
    · obtain rfl := Option.some.inj hp
      exact autoLevel_of_le_first below
    · rw [autoLevel_of_segment ok hp hq above below]
      refine ⟨segmentLevel_eq above below, ?_, segmentLevel_between above below⟩
      rintro rfl
      exact segmentLevel_at_first p q

end Sys2Proof.Machine
end

section
/-! SUPPORT. Drive tables (R191): the tables before that of a frame, counted over the modes, the bands and the frames,
are fewer than the tables of the set, and the count reads the header of no band beyond the set's own. -/

namespace Sys2Proof.Machine

/-! ## Places in a sequence of groups -/

/-- Place `i` of group `b`, behind the groups before it, is one of the places of the first `n` groups. -/
theorem sum_map_range_add_lt {g : Nat → Nat} {n b i : Nat} (hb : b < n) (hi : i < g b) :
    ((List.range b).map g).sum + i < ((List.range n).map g).sum :=
  calc ((List.range b).map g).sum + i
      < ((List.range b).map g).sum + g b := Nat.add_lt_add_left hi _
    _ = ((List.range (b + 1)).map g).sum := (List.sum_range_succ g b).symm
    _ ≤ ((List.range n).map g).sum :=
      ((List.range_sublist.2 hb).map g).sum_le_sum fun _ _ => Nat.zero_le _

theorem sum_map_range_congr {g h : Nat → Nat} {n : Nat} (same : ∀ i < n, g i = h i) :
    ((List.range n).map g).sum = ((List.range n).map h).sum :=
  congrArg List.sum (List.map_congr_left fun i hi => same i (List.mem_range.1 hi))

/-! ## The index of a table -/

/-- R191: a frame's place counts behind the bands before its own, and that sum behind the modes before its own. -/
theorem tableIndex_lt_waveTables {m : Memory} {mode band f : Nat} (hmode : mode < 4) (hband : band < waveBands m)
    (hf : f < waveFrames m mode band) : tableIndex m mode band f < waveTables m := by
  have inMode : waveFrameSum m mode band + f < waveFrameSum m mode (waveBands m) := sum_map_range_add_lt hband hf
  rw [tableIndex, Nat.add_assoc]
  exact sum_map_range_add_lt (g := fun k => waveFrameSum m k (waveBands m)) hmode inMode

theorem waveFrameSum_congr {m m' : Memory} {mode n : Nat}
    (frames : ∀ b < n, waveFrames m' mode b = waveFrames m mode b) : waveFrameSum m' mode n = waveFrameSum m mode n :=
  sum_map_range_congr frames

/-- R191: the index depends on the band count and on the frame counts of the set's own bands alone. -/
theorem tableIndex_congr {m m' : Memory} {mode band : Nat} (f : Nat) (hband : band ≤ waveBands m)
    (bands : waveBands m' = waveBands m)
    (frames : ∀ j b, j ≤ mode → b < waveBands m → waveFrames m' j b = waveFrames m j b) :
    tableIndex m' mode band f = tableIndex m mode band f := by
  have earlierModes : ((List.range mode).map fun k => waveFrameSum m' k (waveBands m)).sum
      = ((List.range mode).map fun k => waveFrameSum m k (waveBands m)).sum :=
    sum_map_range_congr fun j hj => waveFrameSum_congr fun b hb => frames j b hj.le hb
  have earlierBands : waveFrameSum m' mode band = waveFrameSum m mode band :=
    waveFrameSum_congr fun b hb => frames mode b le_rfl (hb.trans_le hband)
  rw [tableIndex, tableIndex, bands, earlierModes, earlierBands]

/-! ## Addresses in the waveform store -/

theorem waveFrames_eq_read (m : Memory) (mode band : Nat) :
    waveFrames m mode band = (m.read (0x3800000 + 30 + 16 * mode + band)).toNat := by
  simp only [waveFrames, waveByte, Config.waveBase, Nat.add_assoc]

theorem tableIndex_eq_read (m : Memory) (mode band f : Nat) :
    tableIndex m mode band f
      = ((List.range mode).map fun j =>
          ((List.range (waveBands m)).map fun b => (m.read (0x3800000 + 30 + 16 * j + b)).toNat).sum).sum
        + ((List.range band).map fun b => (m.read (0x3800000 + 30 + 16 * mode + b)).toNat).sum + f := by
  simp only [tableIndex, waveFrameSum, ← waveFrames_eq_read]

/-- R191: the four codes of a table's byte stand two bits apart. -/
theorem driveCode_eq_read (m : Memory) (mode band f p t : Nat) :
    driveCode m mode band f p t
      = (m.read (0x3800000 + 128 + 64 * tableIndex m mode band f + 4 * p + t / 4)).toNat / 2 ^ (2 * (t % 4)) % 4 := by
  simp only [driveCode, waveByte, Config.waveBase, Nat.add_assoc, Nat.pow_mul, Nat.reducePow]

/-! ## The length of a checked set -/

/-- R47, checks 1 and 7: a set that passes has the requested length, and its tables fill it behind the header. -/
theorem length_of_waveCheck_eq_zero {m : Memory} {len : Nat} (passed : waveCheck m len = 0) :
    len = 128 + 64 * waveTables m := by
  unfold waveCheck at passed
  dsimp only at passed
  split_ifs at passed with total _ _ _ _ _ tables
  rw [← not_not.1 total, not_not.1 tables]

/-! ## The statement -/

/-- Settles O35: `k` is the model's table index, which lies below the tables of the set and has the same value in a
memory with the same header fields. -/
theorem driveTableLocated : Obligations.DriveTableLocated := by
  intro m mode band f p t k hk
  obtain rfl : k = tableIndex m mode band f := hk.trans (tableIndex_eq_read m mode band f).symm
  refine ⟨driveCode_eq_read m mode band f p t, fun len passed hmode hband hf hp ht => ?_,
    fun m' hband bandCount frameCounts tableByte => ?_⟩
  · have inSet := tableIndex_lt_waveTables hmode hband hf
    have length := length_of_waveCheck_eq_zero passed
    omega
  · have bands : waveBands m' = waveBands m := congrArg BitVec.toNat bandCount
    have index : tableIndex m' mode band f = tableIndex m mode band f := by
      refine tableIndex_congr f hband bands fun j b hj hb => ?_
      rw [waveFrames_eq_read, waveFrames_eq_read, frameCounts j b hj hb]
    rw [driveCode_eq_read, driveCode_eq_read, index, tableByte]

end Sys2Proof.Machine
end
